-- ==== Sys2Proof/Word.lean ====
section
/-! DEFINITION. The word types of the block: the three fixed-length words of R108 and the byte. -/

namespace Sys2Proof

/-- A colour channel, a brightness, a pin number, an opcode: 8 bits (R21, R22, R31, R92). -/
abbrev Byte := BitVec 8

/-- The command word the host offers on the command port (R93): 64 bits. -/
abbrev CmdWord := BitVec 64

/-- The response word (R99): 40 bits, `detail` in 39:8, `status` in 7:0. -/
abbrev RspWord := BitVec 40

/-- One PulseCode word, an entry of `PKT` or of the frame buffer (R102): 32 bits. -/
abbrev PulseWord := BitVec 32

/-- The level of the output line: `true` is 1, `false` is 0 (R7, rows LEVEL_HIGH and LEVEL_LOW). -/
abbrev Level := Bool

end Sys2Proof
end

