-- ==== Sys2Proof/Syntax.lean ====
section
/-! DEFINITION. The syntax of the block: colours, PulseCodes, the fields of a command word, and the
instructions, one constructor for each row of spec/opcode_table.json. -/

namespace Sys2Proof

/-- A colour: three 8-bit channels, in the order of the source's `(r, g, b)` (R21, R93). -/
structure Color where
  r : Byte
  g : Byte
  b : Byte
deriving DecidableEq, Repr

/-- A PulseCode: a (level, duration) pair for the high half, emitted first, and one for the low half (R102). -/
structure PulseCode where
  /-- `level_high`, the line level of the first half. -/
  lh : Level
  /-- `duration_high_ticks`. -/
  dh : BitVec 15
  /-- `level_low`, the line level of the second half. -/
  ll : Level
  /-- `duration_low_ticks`. -/
  dl : BitVec 15
deriving DecidableEq, Repr

/-- The fields of a command word, cut at the boundaries the two formats of R93 share: Format C reads 55:40 as
`freq_mhz`, 39:32 as `pin` and 31:0 as reserved, Format L reads 55:40 as `count`, 39:32 as `brightness`, 31:24 as
reserved and 23:0 as the colour. -/
structure CommandFields where
  /-- bits 63:56 -/
  op : Byte
  /-- bits 55:40 -/
  wide : BitVec 16
  /-- bits 39:32 -/
  mid : Byte
  /-- bits 31:24 -/
  rsv : Byte
  /-- bits 23:16 -/
  r : Byte
  /-- bits 15:8 -/
  g : Byte
  /-- bits 7:0 -/
  b : Byte
deriving DecidableEq, Repr

/-- The instructions: the four host commands (R92) and the three frame-buffer symbols the serializer executes
(R103, R104). -/
inductive Instr
  /-- `CONSTRUCT freq_mhz, pin` (R94, R185). -/
  | construct (freqMhz : BitVec 16) (pin : Byte)
  /-- `SEND Color{r,g,b}, brightness, count` (R95, R191). -/
  | send (color : Color) (brightness : Byte) (count : BitVec 16)
  /-- `WRITE Color{r,g,b}, count` (R96, R194). -/
  | write (color : Color) (count : BitVec 16)
  /-- `FADE Color{r,g,b}, count` (R97, R230). -/
  | fade (target : Color) (count : BitVec 16)
  /-- The entry `ONE` (R103, R132). -/
  | one
  /-- The entry `ZERO` (R103, R133). -/
  | zero
  /-- The entry `TERM` (R104). -/
  | term
deriving DecidableEq, Repr

end Sys2Proof
end

