-- ==== Sys2Proof/WellFormed.lean ====
section
/-! DEFINITION. Which command fields are a command (R101). An `Instr` has nothing else to check: every value of
every operand is legal as an encoding (R101), and its operands carry their widths in their types. -/

namespace Sys2Proof

/-- Why a command word is illegal (R101). -/
inductive IllegalWord
  /-- the opcode is none of `0x01` to `0x04` -/
  | opcode
  /-- a CONSTRUCT with any of bits 31:0 set -/
  | constructReserved
  /-- a SEND with any of bits 31:24 set -/
  | sendReserved
  /-- a WRITE with any of bits 39:24 set -/
  | writeReserved
  /-- a FADE with any of bits 39:24 set -/
  | fadeReserved
deriving DecidableEq, Repr

/-- A CONSTRUCT's bits 31:0 are zero. -/
def CommandFields.constructReservedZero (f : CommandFields) : Bool :=
  f.rsv == 0 && f.r == 0 && f.g == 0 && f.b == 0

/-- A SEND's bits 31:24 are zero. -/
def CommandFields.sendReservedZero (f : CommandFields) : Bool := f.rsv == 0

/-- A WRITE's or a FADE's bits 39:24, the `brightness` field among them, are zero. -/
def CommandFields.plainReservedZero (f : CommandFields) : Bool := f.mid == 0 && f.rsv == 0

/-- The fields of one of the four commands (R101); `check` says by name why other fields are not. -/
def CommandFields.check (f : CommandFields) : Except IllegalWord Unit :=
  if f.op = 0x01 then
    if f.constructReservedZero then .ok () else .error .constructReserved
  else if f.op = 0x02 then
    if f.sendReservedZero then .ok () else .error .sendReserved
  else if f.op = 0x03 then
    if f.plainReservedZero then .ok () else .error .writeReserved
  else if f.op = 0x04 then
    if f.plainReservedZero then .ok () else .error .fadeReserved
  else .error .opcode

/-- The fields are those of a command. -/
def CommandFields.legal (f : CommandFields) : Bool :=
  match f.check with
  | .ok _ => true
  | .error _ => false

/-- The fields of a command (R93 to R97); the frame-buffer symbols have no command word. -/
def Instr.fields : Instr → Option CommandFields
  | .construct f p => some ⟨0x01, f, p, 0, 0, 0, 0⟩
  | .send c br n => some ⟨0x02, n, br, 0, c.r, c.g, c.b⟩
  | .write c n => some ⟨0x03, n, 0, 0, c.r, c.g, c.b⟩
  | .fade c n => some ⟨0x04, n, 0, 0, c.r, c.g, c.b⟩
  | .one => none
  | .zero => none
  | .term => none

/-- An instruction is well-formed when its command fields, if it has any, are legal. R101: "every `count`,
`brightness`, `r`, `g`, `b`, `freq_mhz` and `pin` value decodes", so this holds of every instruction. -/
def Instr.wf (i : Instr) : Bool :=
  match i.fields with
  | some f => f.legal
  | none => true

end Sys2Proof
end

