-- ==== Sys2Proof/Decode.lean ====
section
/-! DEFINITION. The decoders of R111 (command words) and of R102 and R103 to R105 (frame-buffer entries), total on
any bits, and after them the encoders, written from the same tables; then the listing syntax of R109. -/

namespace Sys2Proof

/-- Cut a command word into its fields (R93). -/
def splitCommand (w : CmdWord) : CommandFields where
  op := w.extractLsb' 56 8
  wide := w.extractLsb' 40 16
  mid := w.extractLsb' 32 8
  rsv := w.extractLsb' 24 8
  r := w.extractLsb' 16 8
  g := w.extractLsb' 8 8
  b := w.extractLsb' 0 8

/-- The instruction that legal fields stand for (R94 to R97); the name of what is wrong otherwise (R101). -/
def decodeFields (f : CommandFields) : Except IllegalWord Instr :=
  match f.check with
  | .error e => .error e
  | .ok _ =>
    if f.op = 0x01 then .ok (.construct f.wide f.mid)
    else if f.op = 0x02 then .ok (.send ⟨f.r, f.g, f.b⟩ f.mid f.wide)
    else if f.op = 0x03 then .ok (.write ⟨f.r, f.g, f.b⟩ f.wide)
    else .ok (.fade ⟨f.r, f.g, f.b⟩ f.wide)

/-- The command decoder (R111): total on all `2^64` words. -/
def decodeCommand (w : CmdWord) : Except IllegalWord Instr := decodeFields (splitCommand w)

/-- The fields of a PulseCode word (R102): `dh` 14:0, `lh` 15, `dl` 30:16, `ll` 31. -/
def PulseCode.ofWord (w : PulseWord) : PulseCode where
  dh := w.extractLsb' 0 15
  lh := w.getLsbD 15
  dl := w.extractLsb' 16 15
  ll := w.getLsbD 31

/-- The symbol a frame-buffer entry is, if it is one of the three the block writes (R103, R104, R111). -/
def decodePulse (w : PulseWord) : Option Instr :=
  if w = 0x00098010#32 then some .one
  else if w = 0x00118008#32 then some .zero
  else if w = 0x00000000#32 then some .term
  else none

/-- The decoder on a word whose bits the opcode table numbers. The two ports have words of one fixed length each
(R108): 64 bits are a command word, 32 bits a frame-buffer entry, and no other length is decoded. -/
def decodeTableWord (nbits w : Nat) : Option Instr :=
  if nbits = 64 then
    match decodeCommand (BitVec.ofNat 64 w) with
    | .ok i => some i
    | .error _ => none
  else if nbits = 32 then decodePulse (BitVec.ofNat 32 w)
  else none

/-- Put the fields of a command word together (R93). -/
def joinCommand (f : CommandFields) : CmdWord :=
  f.op ++ f.wide ++ f.mid ++ f.rsv ++ f.r ++ f.g ++ f.b

/-- Pack a PulseCode (R102). -/
def PulseCode.toWord (p : PulseCode) : PulseWord :=
  BitVec.ofBool p.ll ++ p.dl ++ BitVec.ofBool p.lh ++ p.dh

/-- The word of a command (R94 to R97); the frame-buffer symbols have none. -/
def encodeCommand (i : Instr) : Option CmdWord :=
  match i.fields with
  | some f => some (joinCommand f)
  | none => none

/-- The word of a frame-buffer symbol (R103, R104); the commands have none. -/
def encodePulse : Instr → Option PulseWord
  | .one => some 0x00098010#32
  | .zero => some 0x00118008#32
  | .term => some 0x00000000#32
  | .construct _ _ => none
  | .send _ _ _ => none
  | .write _ _ => none
  | .fade _ _ => none

/-- The length of an instruction's word in bits (R108). -/
def Instr.nbits : Instr → Nat
  | .construct _ _ => 64
  | .send _ _ _ => 64
  | .write _ _ => 64
  | .fade _ _ => 64
  | .one => 32
  | .zero => 32
  | .term => 32

/-- The word of an instruction as a number whose bit 0 is the word's least significant bit. -/
def encode (i : Instr) : Nat :=
  match encodeCommand i with
  | some w => w.toNat
  | none =>
    match encodePulse i with
    | some w => w.toNat
    | none => 0

/-- The colour literal of R109, `Color` and the three channels in braces. -/
def Color.listing (c : Color) : String :=
  "Color" ++ String.singleton (Char.ofNat 123) ++ toString c.r.toNat ++ "," ++ toString c.g.toNat ++ "," ++
    toString c.b.toNat ++ String.singleton (Char.ofNat 125)

/-- The listing line of a command (R109): the mnemonic in capitals, operands in the source's order, separated by
commas. The frame-buffer symbols are no commands: their line is their name. -/
def Instr.listing : Instr → String
  | .construct f p => "CONSTRUCT " ++ toString f.toNat ++ ", " ++ toString p.toNat
  | .send c br n => "SEND " ++ c.listing ++ ", " ++ toString br.toNat ++ ", " ++ toString n.toNat
  | .write c n => "WRITE " ++ c.listing ++ ", " ++ toString n.toNat
  | .fade c n => "FADE " ++ c.listing ++ ", " ++ toString n.toNat
  | .one => "ONE"
  | .zero => "ZERO"
  | .term => "TERM"

end Sys2Proof
end

