-- ==== Sys2Proof/Config.lean ====
section
/-! DEFINITION. What is fixed when the block is built: the constants of R7 and R37, the record of the
parameters R7 leaves OPEN, the shapes of the oracle's answers (R265), and the uninterpreted constants that
stand for what the spec leaves open. Nothing in Lean can evaluate an uninterpreted constant. -/

namespace Sys2Proof.Config

/-- Ticks high of a logical one (R7; exact by D7). -/
def T1H : Nat := 16
/-- Ticks low of a logical one (R7; exact by D7). -/
def T1L : Nat := 9
/-- Ticks high of a logical zero (R7; exact by D7). -/
def T0H : Nat := 8
/-- Ticks low of a logical zero (R7; exact by D7). -/
def T0L : Nat := 17
/-- Line level of the first half of a data symbol (R7). -/
def LEVEL_HIGH : Level := true
/-- Line level of the second half of a data symbol (R7). -/
def LEVEL_LOW : Level := false
/-- PulseCodes in a packet (R7, R25). -/
def BITS_PER_LED : Nat := 24
/-- The delay after each fade write, in milliseconds (R7, R42; a lower bound, R313). -/
def FADE_DELAY_MS : Nat := 5
/-- Steps a channel in a fade (R7). -/
def FADE_STEPS : Nat := 510
/-- The reference tick in nanoseconds (R7; informative, and the tick of every clock that is a multiple of 20 MHz). -/
def TICK_REF_NS : Nat := 50
/-- The largest divider that fits `TICK_DIV` (R131, D8). -/
def MAX_DIVIDER : Nat := 255

/-- How the channels not being ramped are chosen in a fade (R7 row FADE_COMPOSITE, R233). -/
inductive FadeComposite
  /-- `FC` is never reloaded after the start: the default. -/
  | evolving
  /-- `FC` is reloaded from the target at the start of each channel. -/
  | targetHeld
deriving DecidableEq, Repr

/-- The parameters R7 leaves OPEN: fixed for one block, and changed by no step. -/
structure Params where
  /-- `MAX_LEDS` less one, so that `1 <= MAX_LEDS <= 65535` holds by its type (R7, U9). -/
  maxLedsLess1 : Fin 65535
  /-- `DRIVER_SURVIVES_ERROR` (R258). -/
  driverSurvivesError : Bool
  /-- `IDLE_AFTER_TX`: the line level after a transmission that began and ended (R204). -/
  idleAfterTx : Level
  /-- `FADE_COMPOSITE` (R233). -/
  fadeComposite : FadeComposite
  /-- `T_RESET_US` less one, so that it is positive by its type (R7, U9). -/
  tResetUsLess1 : Nat
deriving DecidableEq, Repr

/-- `MAX_LEDS`, the nominal capacity in LEDs (R7). -/
def Params.maxLeds (p : Params) : Nat := p.maxLedsLess1.val + 1

/-- `MAX_SUPPORTED`, the name the capacity has in the source's testable properties (R7, C2). -/
def Params.maxSupported (p : Params) : Nat := p.maxLeds

/-- `T_RESET_US`: the LEDs' minimum low time, a duty of the host that the block does not time (R7, R300). -/
def Params.tResetUs (p : Params) : Nat := p.tResetUsLess1 + 1

/-- `BUF_DEPTH = 24*MAX_LEDS + 1`, the entries of the frame buffer (R7, R60). -/
def Params.bufDepth (p : Params) : Nat := BITS_PER_LED * p.maxLeds + 1

/-- The oracle's answer to a configuration (R187) or to a begin-transmit (R199). -/
inductive HwResult
  | ok
  | err (code : BitVec 32)
deriving DecidableEq, Repr, Inhabited

/-- The oracle's answer to a wait (R200): done; failed with a code after `ticks` ticks of the waveform; never
ending after `ticks` ticks. -/
inductive WaitResult
  | done
  | err (code : BitVec 32) (ticks : Nat)
  | never (ticks : Nat)
deriving DecidableEq, Repr, Inhabited

/-- FREE VALUE (log 5): the answer to the n-th configuration question that no script answers (R187, R265). -/
opaque hwCfg : Nat → HwResult
/-- FREE VALUE (log 5): the answer to the n-th begin-transmit that no script answers (R199, R265). -/
opaque hwBegin : Nat → HwResult
/-- FREE VALUE (log 5): the answer to the n-th wait that no script answers (R200, R265). -/
opaque hwWait : Nat → WaitResult
/-- FREE VALUE (log 6): the code of the error that R187 forces at the n-th configuration question when the
divider is out of range and the answer in hand is `ok`. -/
opaque forcedCfgCode : Nat → BitVec 32
/-- FREE VALUE (log 3): `MAX_LEDS` less one of the block that `State.reset` describes; the spec gives no value. -/
opaque maxLedsLess1 : Fin 65535
/-- FREE VALUE (log 25): `T_RESET_US` less one of the block that `State.reset` describes; the spec gives no value. -/
opaque tResetUsLess1 : Nat

/-- The parameters of the block `State.reset` describes: the two without a value in the spec uninterpreted
(log 3, log 25), the other three at the defaults of R7 (log 4). -/
def params : Params where
  maxLedsLess1 := maxLedsLess1
  driverSurvivesError := true
  idleAfterTx := false
  fadeComposite := .evolving
  tResetUsLess1 := tResetUsLess1

end Sys2Proof.Config
end

