-- ==== Sys2Proof/Machine/State.lean ====
section
/-! DEFINITION. The state of the block (R20, R46), as plain data, its reset value, and the reasons a step can stop. -/

namespace Sys2Proof.Machine

open Sys2Proof.Config

/-- The controller state `CTRL` (R27). -/
inductive Ctrl
  | idle
  | build
  | tx
  | delay
deriving DecidableEq, Repr

/-- `DRV`: whether a driver exists (R33). -/
inductive Drv
  | unbuilt
  | ready
deriving DecidableEq, Repr

/-- `CH`: the channel state machine (R34, R198). -/
inductive Chan
  | idle
  | transmitting
deriving DecidableEq, Repr

/-- `PHASE` (R28): 0 while the high half of an entry is on the line, 1 while the low half is. -/
inductive Phase
  | high
  | low
deriving DecidableEq, Repr

/-- `FCH`, the channel being ramped (R26): 0 blue, 1 green, 2 red; the code 3 never occurs (log 18). -/
inductive FadeChannel
  | blue
  | green
  | red
deriving DecidableEq, Repr

/-- `LINE`, the output line `dout` (R41): not driven, or driven at a level. -/
inductive Line
  | z
  | driven (level : Level)
deriving DecidableEq, Repr

/-- An event of the output trace `OUT` (R40). -/
inductive Event
  /-- `Drive(level)`: the line is put under drive. -/
  | drive (level : Level)
  /-- `Seg(level, ticks)`: the serializer held the line at `level` for `ticks` ticks. -/
  | seg (level : Level) (ticks : Nat)
  /-- `End`: a transmission reached its terminator and completed. -/
  | txEnd
  /-- `Delay(ms)`: the fade delay ran. -/
  | delay (ms : Nat)
deriving DecidableEq, Repr

/-- How an accepted command runs (log 1). -/
inductive Pace
  /-- in one step, from acceptance to its response or its hang: the host's view (R10, R11) -/
  | whole
  /-- in single steps through `BUILD`, `TX` and `DELAY` (R27), between which the host's script goes on, so that `rst` can fall
  inside the command (R292) -/
  | stepwise
deriving DecidableEq, Repr

/-- What the host does at the block's ports (R270): it offers a command word and holds it until it is accepted,
it lets a step pass, or it asserts `rst` (log 8). -/
inductive HostInput
  | command (pace : Pace) (w : CmdWord)
  | pause
  | reset
deriving DecidableEq, Repr

/-- The frame buffer's contents (R38): (entry index, word) pairs, indices strictly rising. An index that is not
listed holds no value (R47). -/
abbrev Memory := List (Nat × PulseWord)

/-- The state of the block. The spec's state first, in the order of R20; then the model's own fields. -/
structure State where
  /-- `COLOR` (R21): the colour operand latch. -/
  color : Color
  /-- `BRI` (R22): the brightness operand latch. -/
  bri : Byte
  /-- `COUNT` (R23): the LED-count operand latch. -/
  count : BitVec 16
  /-- `SCOL` (R24): the colour the packet builder encodes. -/
  scol : Color
  /-- `PKT[0..23]` (R25): the packet register file. -/
  pkt : Vector PulseWord 24
  /-- `FC` (R26): the current composite colour of a fade. -/
  fc : Color
  /-- `FCH` (R26): the channel being ramped. -/
  fch : FadeChannel
  /-- `FSTEP` (R26): the step within the channel. -/
  fstep : BitVec 9
  /-- `CTRL` (R27): the controller state. -/
  ctrl : Ctrl
  /-- `RDPTR` (R28): the index of the entry being sent. -/
  rdptr : BitVec 21
  /-- `PHASE` (R28). -/
  phase : Phase
  /-- `TICKCNT` (R28): ticks still to run in the current half. -/
  tickcnt : BitVec 15
  /-- `PRESC` (R28): source-clock cycles still to run in the current tick. -/
  presc : Byte
  /-- `rsp_valid` (R29). `BUSY` and `cmd_ready` are views of `ctrl`, in Flags.lean. -/
  rspValid : Bool
  /-- `FREQ_MHZ` (R30). -/
  freqMhz : BitVec 16
  /-- `PIN` (R31). -/
  pin : Byte
  /-- `TICK_DIV` (R32). -/
  tickDiv : Byte
  /-- `DRV` (R33). -/
  drv : Drv
  /-- `CH` (R34). -/
  ch : Chan
  /-- `FLEN` (R35): the length of the frame in the frame buffer. -/
  flen : BitVec 21
  /-- `RESULT` (R36): the last response delivered. -/
  result : RspWord
  /-- `FB` (R38): the frame buffer. -/
  fb : Memory
  /-- `TXN` (R39): none, or pending with the frame length at the time of dispatch. -/
  txn : Option (BitVec 21)
  /-- `OUT` (R40): the output trace, oldest first. -/
  out : List Event
  /-- `LINE` (R41). -/
  line : Line
  /-- `DLY` (R42): milliseconds still to run in the fade delay (log 20). -/
  dly : Nat
  /-- MODEL'S OWN: the parameters of R7 that are open; read by steps, changed by none (log 2). -/
  params : Params
  /-- MODEL'S OWN: what the host does next at the ports, in order (log 8). -/
  hostInputs : List HostInput
  /-- MODEL'S OWN: answers of `hw_cfg` already scheduled, first the next one (log 5). -/
  cfgAnswers : List HwResult
  /-- MODEL'S OWN: how often `hw_cfg` has been asked (log 5). -/
  cfgDraws : Nat
  /-- MODEL'S OWN: answers of `hw_begin` already scheduled (log 5). -/
  beginAnswers : List HwResult
  /-- MODEL'S OWN: how often `hw_begin` has been asked (log 5). -/
  beginDraws : Nat
  /-- MODEL'S OWN: answers of `hw_wait` already scheduled (log 5). -/
  waitAnswers : List WaitResult
  /-- MODEL'S OWN: how often `hw_wait` has been asked (log 5). -/
  waitDraws : Nat
  /-- MODEL'S OWN: the wait outcome drawn for the pending transaction, counting down the ticks that may still reach
  the line (log 7). -/
  hwOutcome : WaitResult
  /-- MODEL'S OWN: the command in progress is FADE, so a completed transmission returns to its loop (log 7). -/
  inFade : Bool
deriving DecidableEq, Repr

/-- Why a step stops with a fault. Neither is reachable from reset (R47, R67). -/
inductive Fault
  /-- Raised by the serializer: it reads a frame-buffer entry that nothing has written (R47, R269). Safe: the spec
  gives such a read no value. -/
  | unwrittenEntry
  /-- Raised by the serializer or the frame builder: an entry index at or above BUF_DEPTH (R60, R67). Safe: no such
  entry exists. -/
  | noSuchEntry
deriving DecidableEq, Repr

/-- Why a step refuses. -/
inductive Refusal
  /-- Raised by an arm of `exec` whose instruction has no meaning yet. Safe. No arm raises it. -/
  | notModelled (mnemonic : String)
deriving DecidableEq, Repr

/-- The state while `rst` is asserted and at its release (R46, R290) of a block with parameters `p`, in an
environment that has not been asked anything. `PKT` is unspecified there: all zero (log 9). `FB` is unspecified
there: nothing is listed (log 10). -/
def State.resetWith (p : Params) : State where
  color := ⟨0, 0, 0⟩
  bri := 0
  count := 0
  scol := ⟨0, 0, 0⟩
  pkt := Vector.replicate 24 0
  fc := ⟨0, 0, 0⟩
  fch := .blue
  fstep := 0
  ctrl := .idle
  rdptr := 0
  phase := .high
  tickcnt := 0
  presc := 0
  rspValid := false
  freqMhz := 0
  pin := 0
  tickDiv := 0
  drv := .unbuilt
  ch := .idle
  flen := 0
  result := 0
  fb := []
  txn := none
  out := []
  line := .z
  dly := 0
  params := p
  hostInputs := []
  cfgAnswers := []
  cfgDraws := 0
  beginAnswers := []
  beginDraws := 0
  waitAnswers := []
  waitDraws := 0
  hwOutcome := .done
  inFade := false

/-- The machine right after reset (R46), for the parameters of Config. -/
def State.reset : State := State.resetWith Config.params

end Sys2Proof.Machine
end

