-- ==== Sys2Proof/Machine/Flags.lean ====
section
/-! DEFINITION. The block has no condition codes and no arithmetic flags (R29). What it has are the handshake
flags, here as views of the state, the input ports, and the status codes of the response (R100). -/

namespace Sys2Proof.Machine

/-- `BUSY` is 1 exactly when `CTRL != IDLE` (R29). -/
def State.busy (s : State) : Bool := s.ctrl != .idle

/-- `cmd_ready` is `not BUSY` (R29). -/
def State.cmdReady (s : State) : Bool := !s.busy

/-- `cmd_valid`: the host offers a command word (R93, R270). -/
def State.cmdValid (s : State) : Bool :=
  match s.hostInputs with
  | .command _ _ :: _ => true
  | .pause :: _ => false
  | .reset :: _ => false
  | [] => false

/-- The word on the command port, when one is offered (R93). -/
def State.cmdWord (s : State) : Option CmdWord :=
  match s.hostInputs with
  | .command _ w :: _ => some w
  | .pause :: _ => none
  | .reset :: _ => none
  | [] => none

/-- `rst` is asserted (R290). -/
def State.rstAsserted (s : State) : Bool :=
  match s.hostInputs with
  | .command _ _ :: _ => false
  | .pause :: _ => false
  | .reset :: _ => true
  | [] => false

/-- The error kinds (R250). -/
inductive Err
  | capacity
  | hardware (code : BitVec 32)
  | config (code : BitVec 32)
  | illegal
  | notReady
deriving DecidableEq, Repr

/-- The status code of success (R100). -/
def statusOk : Byte := 0x00

/-- The status code of an error (R100). -/
def Err.status : Err → Byte
  | .capacity => 0x01
  | .hardware _ => 0x02
  | .config _ => 0x03
  | .illegal => 0x04
  | .notReady => 0x05

/-- The detail of an error (R100): the hardware's code verbatim (R267), else 0. -/
def Err.detail : Err → BitVec 32
  | .capacity => 0
  | .hardware e => e
  | .config e => e
  | .illegal => 0
  | .notReady => 0

/-- The response word `{detail[31:0], status[7:0]}` (R99). -/
def rspWord (status : Byte) (detail : BitVec 32) : RspWord := detail ++ status

/-- `status = rsp[7:0]` of the last response (R99). -/
def State.status (s : State) : Byte := s.result.extractLsb' 0 8

/-- `detail = rsp[39:8]` of the last response (R99). -/
def State.detail (s : State) : BitVec 32 := s.result.extractLsb' 8 32

end Sys2Proof.Machine
end

