-- ==== Sys2Proof/Machine/Operands.lean ====
section
/-! DEFINITION. The operands: the latches of R98, the fields of a colour, and what the rules compute from an operand
before anything is built or sent (TICKDIV, SCALE, the ramp and the composite colour of a fade). -/

namespace Sys2Proof.Machine

open Sys2Proof.Config

/-! ## Operand latches (R98) -/

/-- SEND latches `COLOR`, `BRI` and `COUNT` (R191). -/
def State.latchSend (s : State) (c : Color) (br : Byte) (n : BitVec 16) : State :=
  { s with color := c, bri := br, count := n }

/-- WRITE and FADE latch `COLOR` and `COUNT` and leave `BRI` (R194, R230). -/
def State.latchColor (s : State) (c : Color) (n : BitVec 16) : State :=
  { s with color := c, count := n }

/-- CONSTRUCT latches `FREQ_MHZ` and `PIN` (R185 step 2). -/
def State.latchConstruct (s : State) (f : BitVec 16) (p : Byte) : State :=
  { s with freqMhz := f, pin := p }

/-! ## TICKDIV (R130, R131) -/

/-- The tick divider `(freq_mhz * 5) / 100`, multiplied first, truncating (R130). -/
def tickDivider (f : BitVec 16) : Nat := f.toNat * 5 / 100

/-- The dividers `TICK_DIV` can hold, 1 to 255 (R131). -/
def dividerValid (d : Nat) : Bool := decide (1 ≤ d ∧ d ≤ MAX_DIVIDER)

/-! ## SCALE (R190) -/

/-- One channel scaled: `(c * (brightness + 1)) / 256`, truncating (R190). -/
def scale (c b : Byte) : Byte := BitVec.ofNat 8 (c.toNat * (b.toNat + 1) / 256)

/-- The three channels scaled separately (R190). -/
def scaleColor (c : Color) (b : Byte) : Color := ⟨scale c.r b, scale c.g b, scale c.b b⟩

/-! ## The fade's values (R231 to R234) -/

/-- The code `FCH` holds for a channel (R26). -/
def FadeChannel.code : FadeChannel → BitVec 2
  | .blue => 0
  | .green => 1
  | .red => 2

/-- `chan(c, FCH)` (R230). -/
def Color.chan (c : Color) : FadeChannel → Byte
  | .blue => c.b
  | .green => c.g
  | .red => c.r

/-- `chan(c, FCH) <- v` (R230). -/
def Color.setChan (c : Color) (k : FadeChannel) (v : Byte) : Color :=
  match k with
  | .blue => { c with b := v }
  | .green => { c with g := v }
  | .red => { c with r := v }

/-- The value of the ramped channel at a step (R232): up `0..254`, then down `255..1`. -/
def ramp (k : BitVec 9) : Byte :=
  if k.toNat ≤ 254 then BitVec.ofNat 8 k.toNat else BitVec.ofNat 8 (510 - k.toNat)

/-- The steps of a fade in order (R230, R234): blue, then green, then red, 510 steps each. -/
def fadeSchedule : List (FadeChannel × BitVec 9) :=
  [FadeChannel.blue, .green, .red].flatMap fun c =>
    (List.range FADE_STEPS).map fun k => (c, BitVec.ofNat 9 k)

/-- The step after a step of the fade (R230), if there is one. -/
def nextFadeStep (c : FadeChannel) (k : BitVec 9) : Option (FadeChannel × BitVec 9) :=
  if k.toNat < FADE_STEPS - 1 then some (c, k + 1)
  else
    match c with
    | .blue => some (.green, 0)
    | .green => some (.red, 0)
    | .red => none

/-- The colour a fade of `target` writes at a step, as the tables of R233 give it for both values of
`FADE_COMPOSITE`. The machine computes it step by step (`fadePaint`); this closed form is for claims. -/
def compositeColor (p : Params) (target : Color) (c : FadeChannel) (k : BitVec 9) : Color :=
  match p.fadeComposite, c with
  | _, .blue => ⟨target.r, target.g, ramp k⟩
  | .evolving, .green => ⟨target.r, ramp k, 1⟩
  | .evolving, .red => ⟨ramp k, 1, 1⟩
  | .targetHeld, .green => ⟨target.r, ramp k, target.b⟩
  | .targetHeld, .red => ⟨ramp k, target.g, target.b⟩

end Sys2Proof.Machine
end

