-- ==== Sys2Proof/Machine/Ops.lean ====
section
/-! DEFINITION. The shared operations: the frame buffer's reads and writes, the oracle's answers, delivering a response,
raising an error, and holding the line. Beside them the waveform functions of R202 and R205, for claims. -/

namespace Sys2Proof.Machine

open Sys2Proof.Config

/-! ## The frame buffer (R38, R60 to R68) -/

/-- The word at an index, if one has been written. -/
def Memory.read : Memory → Nat → Option PulseWord
  | [], _ => none
  | (a, v) :: m, i => if a = i then some v else Memory.read m i

/-- Replace the whole entry at an index (R68), keeping the indices rising. -/
def Memory.write : Memory → Nat → PulseWord → Memory
  | [], i, v => [(i, v)]
  | (a, w) :: m, i, v =>
    if i < a then (i, v) :: (a, w) :: m
    else if a = i then (i, v) :: m
    else (a, w) :: Memory.write m i v

/-- The canonical form: indices strictly rising. -/
def Memory.wf (m : Memory) : Bool := decide ((m.map Prod.fst).Pairwise (· < ·))

/-- `FB[i]` (R9): a read has no side effect (R68). An entry never written has no value (R47), and an index at or above
BUF_DEPTH does not exist (R67). -/
def State.readFb (s : State) (i : Nat) : Except Fault PulseWord :=
  match Memory.read s.fb i with
  | some v => .ok v
  | none => if i < s.params.bufDepth then .error .unwrittenEntry else .error .noSuchEntry

/-- `FB[i] <- v` (R9). -/
def State.writeFb (s : State) (i : Nat) (v : PulseWord) : Except Fault State :=
  if i < s.params.bufDepth then .ok { s with fb := Memory.write s.fb i v } else .error .noSuchEntry

/-- `FB[i] <- vs[0]`, `FB[i+1] <- vs[1]`, ..., in increasing index order (R168). -/
def State.writeEntries (s : State) (i : Nat) : List PulseWord → Except Fault State
  | [] => .ok s
  | v :: vs =>
    match s.writeFb i v with
    | .error f => .error f
    | .ok s' => s'.writeEntries (i + 1) vs

/-! ## The environment oracle (R265) -/

/-- The answer to the k-th configuration question from now (k = 0 is the next). -/
def State.cfgAt (s : State) (k : Nat) : HwResult := (s.cfgAnswers[k]?).getD (hwCfg (s.cfgDraws + k))

/-- The answer to the k-th begin-transmit from now. -/
def State.beginAt (s : State) (k : Nat) : HwResult := (s.beginAnswers[k]?).getD (hwBegin (s.beginDraws + k))

/-- The answer to the k-th wait from now. -/
def State.waitAt (s : State) (k : Nat) : WaitResult := (s.waitAnswers[k]?).getD (hwWait (s.waitDraws + k))

/-- `draw(hw_cfg)` for a divider (R187): an answer `ok` under a divider out of range breaks the law of the oracle, and
stands for an error with a free code (log 6). -/
def State.cfgResult (s : State) (divider : Nat) : HwResult :=
  match s.cfgAt 0 with
  | .err e => .err e
  | .ok => if dividerValid divider then .ok else .err (forcedCfgCode s.cfgDraws)

/-- `hw_cfg` has been asked once more. -/
def State.cfgAsked (s : State) : State := { s with cfgAnswers := s.cfgAnswers.tail, cfgDraws := s.cfgDraws + 1 }

/-- `hw_begin` has been asked once more. -/
def State.beginAsked (s : State) : State :=
  { s with beginAnswers := s.beginAnswers.tail, beginDraws := s.beginDraws + 1 }

/-- `hw_wait` has been asked once more, and its answer stands as the pending transaction's outcome. -/
def State.waitAsked (s : State) : State :=
  { s with hwOutcome := s.waitAt 0, waitAnswers := s.waitAnswers.tail, waitDraws := s.waitDraws + 1 }

/-- The ticks that may still reach the line before the outcome cuts the waveform; none when nothing cuts it (R200). -/
def budget : WaitResult → Option Nat
  | .done => none
  | .err _ m => some m
  | .never m => some m

/-- The outcome after `k` more ticks have reached the line. -/
def spend (k : Nat) : WaitResult → WaitResult
  | .done => .done
  | .err e m => .err e (m - k)
  | .never m => .never (m - k)

/-! ## Responding and raising (R99, R257) -/

/-- `respond(status, detail)` (R9): deliver one response word and return the controller to IDLE. -/
def respond (status : Byte) (detail : BitVec 32) (s : State) : State :=
  { s with result := rspWord status detail, rspValid := true, ctrl := .idle, inFade := false }

/-- `respond(OK, 0)`. -/
def respondOk (s : State) : State := respond statusOk 0 s

/-- `DRV` after an error (R258): an error of a SEND, WRITE or FADE loses the driver when `DRIVER_SURVIVES_ERROR` is
false; `IllegalCommand` and `NotReady` never change it; `ConfigError` always leaves `UNBUILT`. -/
def driverAfter (s : State) : Err → Drv
  | .capacity => if s.params.driverSurvivesError then s.drv else .unbuilt
  | .hardware _ => if s.params.driverSurvivesError then s.drv else .unbuilt
  | .config _ => .unbuilt
  | .illegal => s.drv
  | .notReady => s.drv

/-- `raise E(info)`, TAKING AN ERROR (R257): the command stops; `CH <- Idle`, `TXN <- none`, `DRV` as R258 says,
`RESULT <- {info, status(E)}`, and the controller goes to IDLE. Nothing else is saved or switched. There is no return
operation (R259): the next command simply starts. -/
def raise (e : Err) (s : State) : State :=
  respond e.status e.detail { s with ch := .idle, txn := none, drv := driverAfter s e }

/-! ## The line (R203, R204) -/

/-- `emit(level, ticks)` (R9): hold the line and record it. -/
def emit (level : Level) (ticks : Nat) (s : State) : State :=
  { s with line := .driven level, out := s.out ++ [Event.seg level ticks] }

/-- `ran` ticks of a half that lasts `load` ticks have reached the line (R203): the counters stand as R28 says, and the
outcome has that many ticks less to give (log 12). -/
def runHalf (ph : Phase) (level : Level) (load ran : Nat) (s : State) : State :=
  emit level ran
    { s with
      phase := ph
      tickcnt := BitVec.ofNat 15 (load - ran)
      presc := if load = ran then 0 else s.tickDiv
      hwOutcome := spend ran s.hwOutcome }

/-- How a half ended. -/
inductive Held
  /-- all of its ticks reached the line -/
  | whole (s : State)
  /-- the outcome cut the waveform inside it, or before its first tick -/
  | cut (s : State)
deriving DecidableEq, Repr

/-- Hold the line for one half of an entry (R203), as far as the pending outcome lets the waveform go (R205). -/
def hold (ph : Phase) (level : Level) (ticks : BitVec 15) (s : State) : Held :=
  match budget s.hwOutcome with
  | none => .whole (runHalf ph level ticks.toNat ticks.toNat s)
  | some m =>
    if ticks.toNat ≤ m then .whole (runHalf ph level ticks.toNat ticks.toNat s)
    else if m = 0 then .cut s
    else .cut (runHalf ph level ticks.toNat m s)

/-! ## Waveforms, for claims (R202, R205) -/

/-- A segment of the line: a level and a number of ticks. -/
structure Seg where
  level : Level
  ticks : Nat
deriving DecidableEq, Repr

/-- The waveform of a list of PulseCode words (R202). -/
def wave : List PulseWord → List Seg
  | [] => []
  | w :: rest =>
    let p := PulseCode.ofWord w
    if p.dh = 0 then []
    else if p.dl = 0 then [⟨p.lh, p.dh.toNat⟩]
    else ⟨p.lh, p.dh.toNat⟩ :: ⟨p.ll, p.dl.toNat⟩ :: wave rest

/-- The ticks of a waveform (R202). -/
def totalTicks (ws : List Seg) : Nat := (ws.map Seg.ticks).sum

/-- The waveform cut after exactly `m` ticks (R205). -/
def prefixTicks : List Seg → Nat → List Seg
  | [], _ => []
  | g :: gs, m =>
    if g.ticks ≤ m then g :: prefixTicks gs (m - g.ticks)
    else if m = 0 then []
    else [⟨g.level, m⟩]

/-- The events that emitting a waveform appends to `OUT` (R9). -/
def segEvents (ws : List Seg) : List Event := ws.map fun g => .seg g.level g.ticks

/-- The level the line has after emitting a waveform: the last emitted level, or what it had (R201). -/
def lineAfter (ws : List Seg) (l : Line) : Line :=
  match ws.getLast? with
  | some g => .driven g.level
  | none => l

end Sys2Proof.Machine
end

