-- ==== Sys2Proof/Machine/BitEncoder.lean ====
section
/-! DEFINITION. BitEncoder (R132 to R134): ENC_ONE, ENC_ZERO and ENC. TICKDIV is in Operands.lean. -/

namespace Sys2Proof.Machine

open Sys2Proof.Config

/-- ENC_ONE (R132): high for `T1H` ticks, low for `T1L`. -/
def encOne : PulseCode where
  lh := LEVEL_HIGH
  dh := BitVec.ofNat 15 T1H
  ll := LEVEL_LOW
  dl := BitVec.ofNat 15 T1L

/-- ENC_ZERO (R133): high for `T0H` ticks, low for `T0L`. -/
def encZero : PulseCode where
  lh := LEVEL_HIGH
  dh := BitVec.ofNat 15 T0H
  ll := LEVEL_LOW
  dl := BitVec.ofNat 15 T0L

/-- The terminator (R104): both durations zero, both levels 0. -/
def termCode : PulseCode where
  lh := false
  dh := 0
  ll := false
  dl := 0

/-- ENC (R134), as the 32-bit word of R102: a function of the bit alone. -/
def enc (v : Bool) : PulseWord := if v then encOne.toWord else encZero.toWord

/-- The terminator's word `TERM` (R104). -/
def termWord : PulseWord := termCode.toWord

end Sys2Proof.Machine
end

