-- ==== Sys2Proof/Machine/PacketBuilder.lean ====
section
/-! DEFINITION. PacketBuilder: BUILD_PACKET (R150) and, for claims, its inverse DECODE_PACKET (R153). -/

namespace Sys2Proof.Machine

open Sys2Proof.Config

/-- The eight PulseCodes of a byte, most significant bit first (R150). -/
def byteCodes (v : Byte) : List PulseWord := (List.range 8).map fun m => enc (v.getLsbD (7 - m))

/-- The 24 PulseCodes of a colour: green, then red, then blue (R150). -/
def packetCodes (c : Color) : List PulseWord := [c.g, c.r, c.b].flatMap byteCodes

/-- The packet of a colour (R150). -/
def packet (c : Color) : Vector PulseWord 24 := ⟨(packetCodes c).toArray, by simp [packetCodes, byteCodes]⟩

/-- BUILD_PACKET (R150, R152): reads `SCOL`, writes all of `PKT` and nothing else. -/
def buildPacket (s : State) : State := { s with pkt := packet s.scol }

/-- `bit(p)` (R153): the bit a word stands for; none for a word the block never builds. -/
def pulseBit (w : PulseWord) : Option Bool :=
  let p := PulseCode.ofWord w
  if p.dh.toNat = T1H ∧ p.dl.toNat = T1L ∧ p.lh = true ∧ p.ll = false then some true
  else if p.dh.toNat = T0H ∧ p.dl.toNat = T0L ∧ p.lh = true ∧ p.ll = false then some false
  else none

/-- The byte of eight bits, most significant first. -/
def bitsToByte (bs : List Bool) : Byte :=
  BitVec.ofNat 8 (bs.foldl (fun acc b => 2 * acc + b.toNat) 0)

/-- DECODE_PACKET (R153): the colour of 24 words; none when a word stands for no bit or there are not 24. -/
def decodePacket (ws : List PulseWord) : Option Color :=
  if ws.length = BITS_PER_LED then
    match ws.mapM pulseBit with
    | some bs =>
      some
        { g := bitsToByte (bs.take 8)
          r := bitsToByte ((bs.drop 8).take 8)
          b := bitsToByte (bs.drop 16) }
    | none => none
  else none

end Sys2Proof.Machine
end

