-- ==== Sys2Proof/Machine/FrameAssembler.lean ====
section
/-! DEFINITION. FrameAssembler: CAPCHECK (R166) and BUILD_FRAME (R168). -/

namespace Sys2Proof.Machine

open Sys2Proof.Config

/-- CAPCHECK (R166): the count is rejected when `COUNT >= MAX_LEDS - 1`. `MAX_LEDS >= 1`, so nothing underflows. -/
def capacityExceeded (p : Params) (n : BitVec 16) : Bool := decide (p.maxLeds - 1 ≤ n.toNat)

/-- The entries of a frame: `count` copies of the packet, then the terminator (R168). -/
def frameWords (pkt : Vector PulseWord 24) (n : Nat) : List PulseWord :=
  (List.replicate n pkt.toList).flatten ++ [termWord]

/-- BUILD_FRAME (R168): write the frame from index 0 upwards and set `FLEN`. -/
def buildFrame (s : State) : Except Fault State :=
  match s.writeEntries 0 (frameWords s.pkt s.count.toNat) with
  | .error f => .error f
  | .ok s' => .ok { s' with flen := BitVec.ofNat 21 (BITS_PER_LED * s.count.toNat + 1) }

end Sys2Proof.Machine
end

