-- ==== Sys2Proof/Machine/Serializer.lean ====
section
/-! DEFINITION. The serializer (R202 to R205), how a transmission ends (R197, R201), and the meanings of the three
frame-buffer symbols ONE, ZERO and TERM, which the serializer executes. -/

namespace Sys2Proof.Machine

open Sys2Proof.Config

/-- How the serializer leaves an entry (R203). -/
inductive EntryEnd
  /-- both halves are out and `RDPTR` has advanced -/
  | running (s : State)
  /-- a zero duration was met: the serializer stops and signals completion -/
  | stopped (s : State)
  /-- the outcome cut the waveform inside this entry -/
  | cut (s : State)
deriving DecidableEq, Repr

/-- One entry (R203, from `fetch` to the next `fetch`): act on the four fields of the word (R105). -/
def serializeEntry (p : PulseCode) (s : State) : EntryEnd :=
  if p.dh = 0 then .stopped s
  else
    match hold .high p.lh p.dh s with
    | .cut s1 => .cut s1
    | .whole s1 =>
      if p.dl = 0 then .stopped s1
      else
        match hold .low p.ll p.dl s1 with
        | .cut s2 => .cut s2
        | .whole s2 => .running { s2 with rdptr := s2.rdptr + 1 }

/-- How a part of a command ends. -/
inductive Flow
  /-- it completed and returns to its caller -/
  | done (s : State)
  /-- it raised an error -/
  | failed (e : Err) (s : State)
  /-- the hardware never signals completion: the hang (R268) -/
  | hung (s : State)
  /-- the model stops -/
  | faulted (f : Fault)
deriving DecidableEq, Repr

/-- The line rests at `IDLE_AFTER_TX`, `TXN <- none`, `CH <- Idle`: a transmission that began has ended (R197, R204). -/
def endTx (s : State) : State :=
  { s with line := .driven s.params.idleAfterTx, txn := none, ch := .idle }

/-- The serializer has stopped or has been cut: the transmission ends as the outcome says (R197, R201). `End` is
recorded on `done` only. -/
def settle (s : State) : Flow :=
  match s.hwOutcome with
  | .done => .done (endTx { s with out := s.out ++ [Event.txEnd] })
  | .err e _ => .failed (.hardware e) (endTx s)
  | .never _ => .hung s

/-- The serializer from `RDPTR` on, with so many entries left before `RDPTR = FLEN` (R203). -/
def transmit : Nat → State → Flow
  | 0, s => settle s
  | n + 1, s =>
    match s.readFb s.rdptr.toNat with
    | .error f => .faulted f
    | .ok w =>
      match serializeEntry (PulseCode.ofWord w) s with
      | .running s' => transmit n s'
      | .stopped s' => settle s'
      | .cut s' => settle s'

/-- Enter the fade delay (R230, R238): `CTRL <- DELAY`, the timer loaded. -/
def enterDelay (s : State) : State := { s with ctrl := .delay, dly := FADE_DELAY_MS }

/-- A command that ends here responds (R195 step 5), raises (R257), or hangs (R268). -/
def conclude : Flow → Host.Outcome State Fault Refusal
  | .done s => .next (respondOk s)
  | .failed e s => .next (raise e s)
  | .hung s => .next s
  | .faulted f => .fault f

/-- A transmission that ends returns to its caller (R195 step 5): FADE goes on to its delay, SEND and WRITE respond. -/
def resume : Flow → Host.Outcome State Fault Refusal
  | .done s => if s.inFade then .next (enterDelay s) else .next (respondOk s)
  | .failed e s => .next (raise e s)
  | .hung s => .next s
  | .faulted f => .fault f

/-- The serializer executes an entry: "It runs only while `CH = Transmitting` with a pending transaction" (R203);
otherwise it does nothing (log 14). -/
def execEntry (p : PulseCode) (s : State) : Host.Outcome State Fault Refusal :=
  if s.ch = .transmitting ∧ s.txn.isSome = true then
    match serializeEntry p s with
    | .running s' => .next s'
    | .stopped s' => resume (settle s')
    | .cut s' => resume (settle s')
  else .next s

/-- ONE (R132, R203). -/
def execOne (s : State) : Host.Outcome State Fault Refusal := execEntry encOne s

/-- ZERO (R133, R203). -/
def execZero (s : State) : Host.Outcome State Fault Refusal := execEntry encZero s

/-- TERM (R104, R203). -/
def execTerm (s : State) : Host.Outcome State Fault Refusal := execEntry termCode s

end Sys2Proof.Machine
end

