-- ==== Sys2Proof/Machine/TransmitDriver.lean ====
section
/-! DEFINITION. TransmitDriver: CONSTRUCT (R185), DISPATCH (R197), WRITE_BODY (R195), SEND (R191) and WRITE (R194). -/

namespace Sys2Proof.Machine

open Sys2Proof.Config

/-- The state CONSTRUCT leaves (R185): drive the line high, latch, ask for the configuration, build the driver or raise
`ConfigError`. -/
def construct (f : BitVec 16) (p : Byte) (s : State) : State :=
  let s1 := { s with line := .driven true, out := s.out ++ [Event.drive true] }
  let s2 := s1.latchConstruct f p
  match s2.cfgResult (tickDivider f) with
  | .ok => respondOk { s2.cfgAsked with tickDiv := BitVec.ofNat 8 (tickDivider f), drv := .ready }
  | .err e => raise (.config e) { s2.cfgAsked with tickDiv := 0, drv := .unbuilt }

/-- CONSTRUCT (R185). -/
def execConstruct (f : BitVec 16) (p : Byte) (s : State) : Host.Outcome State Fault Refusal :=
  .next (construct f p s)

/-- How the beginning of a transmission ends. -/
inductive Begun
  /-- a transaction is pending and the serializer starts -/
  | running (s : State)
  /-- no transaction: the command ends here -/
  | ended (f : Flow)
deriving DecidableEq, Repr

/-- DISPATCH up to the pending transaction (R197): on `hw_begin = err` nothing is emitted and `LINE` is unchanged. -/
def beginTx (s : State) : Begun :=
  let s1 := { s with ctrl := .tx, ch := .transmitting }
  match s1.beginAt 0 with
  | .err e => .ended (.failed (.hardware e) { s1.beginAsked with ch := .idle })
  | .ok => .running { s1.beginAsked.waitAsked with txn := some s.flen, rdptr := 0 }

/-- DISPATCH (R197): begin, then block until the transmission ends. -/
def dispatch (s : State) : Flow :=
  match beginTx s with
  | .ended f => f
  | .running s' => transmit s'.flen.toNat s'

/-- The controller enters `BUILD` in single steps (R27), inside a fade or not (log 7). -/
def enterBuild (fade : Bool) (s : State) : State := { s with ctrl := .build, inFade := fade }

/-- WRITE_BODY steps 1 to 3 (R195): CAPCHECK, BUILD_PACKET, BUILD_FRAME. The capacity error comes before any write
(R167). -/
def buildBody (s : State) : Except Flow State :=
  let s1 := { s with ctrl := .build }
  if capacityExceeded s1.params s1.count then .error (.failed .capacity s1)
  else
    match buildFrame (buildPacket s1) with
    | .error f => .error (.faulted f)
    | .ok s2 => .ok s2

/-- WRITE_BODY steps 1 to 4 (R195): the build, then DISPATCH. -/
def writeBody (s : State) : Flow :=
  match buildBody s with
  | .error f => f
  | .ok s' => dispatch s'

/-- SEND (R191): latch, ready check, scale, then the body. -/
def execSend (c : Color) (br : Byte) (n : BitVec 16) (s : State) : Host.Outcome State Fault Refusal :=
  let s1 := s.latchSend c br n
  match s1.drv with
  | .unbuilt => .next (raise .notReady s1)
  | .ready => conclude (writeBody { s1 with scol := scaleColor s1.color s1.bri })

/-- WRITE (R194): latch, ready check, copy the colour, then the body. -/
def execWrite (c : Color) (n : BitVec 16) (s : State) : Host.Outcome State Fault Refusal :=
  let s1 := s.latchColor c n
  match s1.drv with
  | .unbuilt => .next (raise .notReady s1)
  | .ready => conclude (writeBody { s1 with scol := s1.color })

/-- SEND, accepted to run in single steps (log 1): latch, ready check, scale, and the controller is in `BUILD` (R27, R191). -/
def startSend (c : Color) (br : Byte) (n : BitVec 16) (s : State) : Host.Outcome State Fault Refusal :=
  let s1 := s.latchSend c br n
  match s1.drv with
  | .unbuilt => .next (raise .notReady s1)
  | .ready => .next (enterBuild false { s1 with scol := scaleColor s1.color s1.bri })

/-- WRITE, accepted to run in single steps (log 1): latch, ready check, copy the colour, and the controller is in `BUILD` (R27,
R194). -/
def startWrite (c : Color) (n : BitVec 16) (s : State) : Host.Outcome State Fault Refusal :=
  let s1 := s.latchColor c n
  match s1.drv with
  | .unbuilt => .next (raise .notReady s1)
  | .ready => .next (enterBuild false { s1 with scol := s1.color })

/-- A single step from `CTRL = BUILD` (log 1): the build, then the begin of DISPATCH. -/
def buildStep (s : State) : Host.Outcome State Fault Refusal :=
  match buildBody s with
  | .error f => conclude f
  | .ok s' =>
    match beginTx s' with
    | .running s'' => .next s''
    | .ended f => conclude f

end Sys2Proof.Machine
end

