-- ==== Sys2Proof/Machine/AnimationSequencer.lean ====
section
/-! DEFINITION. AnimationSequencer: FADE (R230) and its step. -/

namespace Sys2Proof.Machine

open Sys2Proof.Config

/-- The colour of a step (R231 to R233): reload `FC` from the target at a channel's first step if `FADE_COMPOSITE` says so,
overwrite the ramped channel, and copy the composite to `SCOL`. -/
def fadePaint (c : FadeChannel) (k : BitVec 9) (s : State) : State :=
  let base := if s.params.fadeComposite = .targetHeld ∧ k = 0 then s.color else s.fc
  let fc := Color.setChan base c (ramp k)
  { s with fch := c, fstep := k, fc := fc, scol := fc }

/-- The delay has run to 0 (R42, R238): one event. -/
def runDelay (s : State) : State := { s with out := s.out ++ [Event.delay s.dly], dly := 0 }

/-- One step of a fade (R235): paint, write, then delay; a failed write is followed by nothing (R237). -/
def fadeStep (c : FadeChannel) (k : BitVec 9) (s : State) : Flow :=
  match writeBody (fadePaint c k s) with
  | .done s' => .done (runDelay (enterDelay s'))
  | .failed e s' => .failed e s'
  | .hung s' => .hung s'
  | .faulted f => .faulted f

/-- The steps of a list, in order, up to the first that does not complete (R230, R237). -/
def fadeLoop : List (FadeChannel × BitVec 9) → State → Flow
  | [], s => .done s
  | (c, k) :: rest, s =>
    match fadeStep c k s with
    | .done s' => fadeLoop rest s'
    | .failed e s' => .failed e s'
    | .hung s' => .hung s'
    | .faulted f => .faulted f

/-- FADE (R230): latch, ready check, load `FC` from the target (R231), then 3 x 510 steps and one response. -/
def execFade (c : Color) (n : BitVec 16) (s : State) : Host.Outcome State Fault Refusal :=
  let s1 := s.latchColor c n
  match s1.drv with
  | .unbuilt => .next (raise .notReady s1)
  | .ready => conclude (fadeLoop fadeSchedule { s1 with fc := s1.color, fch := .blue, fstep := 0, inFade := true })

/-- FADE, accepted to run in single steps (log 1): latch, ready check, load `FC` from the target, paint the first step, and the
controller is in `BUILD` (R27, R230). -/
def startFade (c : Color) (n : BitVec 16) (s : State) : Host.Outcome State Fault Refusal :=
  let s1 := s.latchColor c n
  match s1.drv with
  | .unbuilt => .next (raise .notReady s1)
  | .ready => .next (enterBuild true (fadePaint .blue 0 { s1 with fc := s1.color }))

/-- A single step from `CTRL = DELAY` (log 1): the delay runs, then the next step is painted and the controller is in `BUILD`, or
the fade responds. -/
def delayStep (s : State) : Host.Outcome State Fault Refusal :=
  match nextFadeStep s.fch s.fstep with
  | some (c, k) => .next (enterBuild true (fadePaint c k (runDelay s)))
  | none => .next (respondOk (runDelay s))

end Sys2Proof.Machine
end

