-- ==== Sys2Proof/Machine/Dispatch.lean ====
section
/-! DEFINITION. One arm per instruction. -/

namespace Sys2Proof.Machine

def exec (i : Instr) (s : State) : Host.Outcome State Fault Refusal :=
  match i with
  | .construct f p => Sys2Proof.Machine.execConstruct f p s
  | .send c br n => Sys2Proof.Machine.execSend c br n s
  | .write c n => Sys2Proof.Machine.execWrite c n s
  | .fade c n => Sys2Proof.Machine.execFade c n s
  | .one => Sys2Proof.Machine.execOne s
  | .zero => Sys2Proof.Machine.execZero s
  | .term => Sys2Proof.Machine.execTerm s

end Sys2Proof.Machine
end

