-- ==== Sys2Proof/Machine/Ports.lean ====
section
/-! DEFINITION. What a step does around an instruction: accepting from the ports, reset, fetching an entry; and placing a word
where the next step runs it. -/

namespace Sys2Proof.Machine

/-- A step begins: no response is delivered in it yet (R29). -/
def State.nextCycle (s : State) : State := { s with rspValid := false }

/-- A step begins that takes the head of the host's script. -/
def State.accept (s : State) (rest : List HostInput) : State := { s with rspValid := false, hostInputs := rest }

/-- `rst` (R290 to R292): every piece of the block's state has the value of R46. The parameters are the block's, and the host's
script and the oracle's answers are the environment's, so they stay (log 8). -/
def State.applyReset (s : State) (rest : List HostInput) : State :=
  { State.resetWith s.params with
    hostInputs := rest
    cfgAnswers := s.cfgAnswers
    cfgDraws := s.cfgDraws
    beginAnswers := s.beginAnswers
    beginDraws := s.beginDraws
    waitAnswers := s.waitAnswers
    waitDraws := s.waitDraws }

/-- What the serializer finds at `RDPTR` (R203, `fetch`). -/
inductive Fetched
  /-- no transaction is pending -/
  | none
  /-- `RDPTR` is at the end of the slice: the serializer cannot run past the prefix (R63) -/
  | endOfSlice
  /-- the read has no value -/
  | failed (f : Fault)
  /-- an entry -/
  | entry (w : PulseWord)
deriving DecidableEq, Repr

/-- The serializer's fetch (R203). It stops at `FLEN` and, by R63, anywhere past it (log 13). -/
def State.fetchEntry (s : State) : Fetched :=
  if s.ch = .transmitting ∧ s.txn.isSome = true then
    if s.flen.toNat ≤ s.rdptr.toNat then .endOfSlice
    else
      match s.readFb s.rdptr.toNat with
      | .error f => .failed f
      | .ok w => .entry w
  else .none

/-- A command accepted to run in single steps (log 1). CONSTRUCT waits for nothing and has no smaller steps (R185); the three symbols
are no commands, and one of them is one step of the serializer. -/
def start (i : Instr) (s : State) : Host.Outcome State Fault Refusal :=
  match i with
  | .construct f p => execConstruct f p s
  | .send c br n => startSend c br n s
  | .write c n => startWrite c n s
  | .fade c n => startFade c n s
  | .one => execOne s
  | .zero => execZero s
  | .term => execTerm s

/-- An idle block that is offered a command word, to be run whole. -/
def State.offerWord (s : State) (w : CmdWord) : State :=
  { s with ctrl := .idle, hostInputs := .command .whole w :: s.hostInputs }

/-- A block whose serializer, with a transaction of one entry pending that nothing will cut, finds the word at `RDPTR` next. -/
def State.placeEntry (s : State) (w : PulseWord) : State :=
  { s with
    ctrl := .tx
    ch := .transmitting
    txn := some 1
    flen := 1
    rdptr := 0
    fb := Memory.write s.fb 0 w
    hwOutcome := .done
    hostInputs := .pause :: s.hostInputs }

end Sys2Proof.Machine
end

