-- ==== Sys2Proof/Machine/Step.lean ====
section
/-! DEFINITION. One step of the block: reset, accepting a command, or going on with what the controller is doing. -/

namespace Sys2Proof.Machine

/-- The serializer's step from `CTRL = TX`: at the end of the slice the transmission ends; otherwise the entry at `RDPTR` is
fetched and executed: the instruction it decodes to, or, for a word that is none of the three symbols, its four fields
(R105, R203). With no transaction pending the serializer does nothing. -/
def serializerStep (s : State) : Host.Outcome State Fault Refusal :=
  match s.fetchEntry with
  | .none => .next s
  | .endOfSlice => resume (settle s)
  | .failed f => .fault f
  | .entry w =>
    match decodePulse w with
    | some i => exec i s
    | none => execEntry (PulseCode.ofWord w) s

/-- The controller goes on with what it is doing (R27). -/
def advance (s : State) : Host.Outcome State Fault Refusal :=
  match s.ctrl with
  | .idle => .next s
  | .build => buildStep s
  | .tx => serializerStep s
  | .delay => delayStep s

/-- Run an accepted command word: the instruction it decodes to, whole or started, or the answer to an illegal word (R255). -/
def runCommand (pace : Pace) (w : CmdWord) (s : State) : Host.Outcome State Fault Refusal :=
  match decodeCommand w with
  | .ok i =>
    match pace with
    | .whole => exec i s
    | .stepwise => start i s
  | .error _ => .next (raise .illegal s)

/-- One step. `rst` comes before everything (R290); a command word is accepted only with `cmd_ready = 1` and is otherwise
held (R29, R270); a response is valid for one step. -/
def step (s : State) : Host.Outcome State Fault Refusal :=
  match s.hostInputs with
  | .reset :: rest => .next (s.applyReset rest)
  | .command pace w :: rest => if s.cmdReady then runCommand pace w (s.accept rest) else advance s.nextCycle
  | .pause :: rest => advance (s.accept rest)
  | [] => advance s.nextCycle

/-- The state whose next step runs the instruction with that word. A 64-bit word is offered on the command port of an idle
block. Any other length is a frame-buffer entry: it is placed where the serializer, with a transaction pending, fetches. -/
def State.withFetchWord (s : State) (nbits w : Nat) : State :=
  if nbits = 64 then s.offerWord (BitVec.ofNat 64 w) else s.placeEntry (BitVec.ofNat 32 w)

end Sys2Proof.Machine
end

