-- ==== Sys2Proof/Safety.lean ====
section
/-! DEFINITION. The vocabulary of the claims: what it means that a frame is in the frame buffer, what a command leaves behind
in each of its endings, the invariant of the block, and the tick period of R311. No step reads anything of this file. -/

namespace Sys2Proof.Machine

open Sys2Proof.Config

/-- A step or an instruction goes on: it answers a next state. -/
def Runs (o : Host.Outcome State Fault Refusal) : Prop := ∃ t, o = .next t

/-- The waveform of a frame of `n` LEDs of one colour (R202). -/
def frameWave (c : Color) (n : Nat) : List Seg := wave (frameWords (packet c) n)

/-- The events a completed transmission of that frame appends to `OUT` (R197). -/
def frameEvents (c : Color) (n : Nat) : List Event := segEvents (frameWave c n) ++ [.txEnd]

/-- The events the completed steps of a fade append to `OUT` (R235, R236). -/
def fadeEvents (p : Params) (target : Color) (n : Nat) (steps : List (FadeChannel × BitVec 9)) : List Event :=
  steps.flatMap fun ck => frameEvents (compositeColor p target ck.1 ck.2) n ++ [.delay FADE_DELAY_MS]

/-- The frame buffer, `PKT` and `FLEN` hold the frame of `n` LEDs of colour `c` (R43 item 2, R62). -/
structure HoldsFrame (s : State) (c : Color) (n : Nat) : Prop where
  length : s.flen.toNat = BITS_PER_LED * n + 1
  packet_eq : s.pkt = packet c
  data : ∀ i, i < BITS_PER_LED * n → Memory.read s.fb i = (packetCodes c)[i % BITS_PER_LED]?
  terminator : Memory.read s.fb (BITS_PER_LED * n) = some termWord

/-- A transaction is pending: the serializer is at work (R203). -/
def Sending (s : State) : Prop := s.ctrl = .tx ∧ s.ch = .transmitting ∧ s.txn.isSome = true

/-- The host lets the block work: its script is at its end, or a command word is offered, which a busy block does not accept
(R270). -/
def Undisturbed (s : State) : Prop :=
  (∀ rest, s.hostInputs ≠ .reset :: rest) ∧ ∀ rest, s.hostInputs ≠ .pause :: rest

/-- The hang (R268): the pending transaction will never be signalled and no further tick reaches the line. -/
def Hung (s : State) : Prop := Sending s ∧ s.hwOutcome = .never 0

/-- The state after the build of WRITE_BODY (R195 steps 1 to 3) on `b`, as `t` has it: `PKT`, the frame and `FLEN` are new, the
entries above the frame are as they were (R168). -/
structure Built (b t : State) : Prop where
  frame : HoldsFrame t b.scol b.count.toNat
  rest : ∀ i, BITS_PER_LED * b.count.toNat < i → Memory.read t.fb i = Memory.read b.fb i

/-- WRITE_BODY on `b` has completed and `(OK, 0)` has been delivered (R195, R201 row `done`). Of the registers only those named
here differ from `b`; `PHASE`, `TICKCNT` and `PRESC` are the serializer's working registers (U20), and `RDPTR` is where the
serializer stopped, the terminator (R28, R203), where the model leaves it (log 12). -/
structure Completed (b t : State) : Prop where
  state : t =
    { b with
      pkt := packet b.scol
      fb := t.fb
      flen := BitVec.ofNat 21 (BITS_PER_LED * b.count.toNat + 1)
      ctrl := .idle
      ch := .idle
      txn := none
      rdptr := BitVec.ofNat 21 (BITS_PER_LED * b.count.toNat)
      phase := t.phase
      tickcnt := t.tickcnt
      presc := t.presc
      line := .driven b.params.idleAfterTx
      out := b.out ++ frameEvents b.scol b.count.toNat
      result := rspWord statusOk 0
      rspValid := true
      beginAnswers := b.beginAnswers.tail
      beginDraws := b.beginDraws + 1
      waitAnswers := b.waitAnswers.tail
      waitDraws := b.waitDraws + 1
      hwOutcome := .done
      inFade := false }
  built : Built b t

/-- WRITE_BODY on `b` was turned away by `hw_begin = err(e)` and `(ERR_HW, e)` has been delivered (R201 first row): nothing is
emitted and the line is unchanged; the serializer's registers are as they were (log 21). -/
structure BeginFailed (e : BitVec 32) (b t : State) : Prop where
  state : t =
    { b with
      pkt := packet b.scol
      fb := t.fb
      flen := BitVec.ofNat 21 (BITS_PER_LED * b.count.toNat + 1)
      ctrl := .idle
      ch := .idle
      txn := none
      drv := if b.params.driverSurvivesError then b.drv else .unbuilt
      result := rspWord 0x02 e
      rspValid := true
      beginAnswers := b.beginAnswers.tail
      beginDraws := b.beginDraws + 1
      inFade := false }
  built : Built b t

/-- WRITE_BODY on `b` was cut by `hw_wait = err(e, m)` and `(ERR_HW, e)` has been delivered (R201 third row): the first `m`
ticks of the waveform are out, and no `End`. -/
structure WaitFailed (e : BitVec 32) (m : Nat) (b t : State) : Prop where
  state : t =
    { b with
      pkt := packet b.scol
      fb := t.fb
      flen := BitVec.ofNat 21 (BITS_PER_LED * b.count.toNat + 1)
      ctrl := .idle
      ch := .idle
      txn := none
      rdptr := t.rdptr
      phase := t.phase
      tickcnt := t.tickcnt
      presc := t.presc
      line := .driven b.params.idleAfterTx
      out := b.out ++ segEvents (prefixTicks (frameWave b.scol b.count.toNat) m)
      drv := if b.params.driverSurvivesError then b.drv else .unbuilt
      result := rspWord 0x02 e
      rspValid := true
      beginAnswers := b.beginAnswers.tail
      beginDraws := b.beginDraws + 1
      waitAnswers := b.waitAnswers.tail
      waitDraws := b.waitDraws + 1
      hwOutcome := t.hwOutcome
      inFade := false }
  built : Built b t

/-- WRITE_BODY on `b` hangs on `hw_wait = never(m)` (R201 last row, R268): the first `m` ticks of the waveform are out, the line
has the last emitted level, and no response is delivered. -/
structure HangsAfter (m : Nat) (b t : State) : Prop where
  state : t =
    { b with
      pkt := packet b.scol
      fb := t.fb
      flen := BitVec.ofNat 21 (BITS_PER_LED * b.count.toNat + 1)
      ctrl := .tx
      ch := .transmitting
      txn := some (BitVec.ofNat 21 (BITS_PER_LED * b.count.toNat + 1))
      rdptr := t.rdptr
      phase := t.phase
      tickcnt := t.tickcnt
      presc := t.presc
      line := lineAfter (prefixTicks (frameWave b.scol b.count.toNat) m) b.line
      out := b.out ++ segEvents (prefixTicks (frameWave b.scol b.count.toNat) m)
      beginAnswers := b.beginAnswers.tail
      beginDraws := b.beginDraws + 1
      waitAnswers := b.waitAnswers.tail
      waitDraws := b.waitDraws + 1
      hwOutcome := .never (m - totalTicks (frameWave b.scol b.count.toNat)) }
  built : Built b t

/-- The operands SEND latches and the colour it scales (R191), on a block that is ready. -/
def sendBase (c : Color) (br : Byte) (n : BitVec 16) (s : State) : State :=
  { s with color := c, bri := br, count := n, scol := scaleColor c br }

/-- The operands WRITE latches and the colour it copies (R194), on a block that is ready. -/
def writeBase (c : Color) (n : BitVec 16) (s : State) : State := { s with color := c, count := n, scol := c }

/-- A fade of `target` before its step `j`, as R230 to R236 have it, when steps `0` to `j - 1` of the schedule have completed:
`FCH`, `FSTEP`, `FC` and `SCOL` are those of step `j`, each completed step has put one frame, `End` and `Delay(5)` on `OUT` and
has asked the oracle twice. What the completed steps did to `PKT`, `FB`, `FLEN` and the serializer's registers is overwritten by
step `j`, and is taken from `u`. -/
def fadeBase (target : Color) (n : BitVec 16) (j : Nat) (c : FadeChannel) (k : BitVec 9) (s u : State) : State :=
  { s with
    color := target
    count := n
    fch := c
    fstep := k
    fc := compositeColor s.params target c k
    scol := compositeColor s.params target c k
    inFade := true
    out := s.out ++ fadeEvents s.params target n.toNat (fadeSchedule.take j)
    line := if j = 0 then s.line else .driven s.params.idleAfterTx
    ctrl := u.ctrl
    ch := u.ch
    txn := u.txn
    pkt := u.pkt
    fb := u.fb
    flen := u.flen
    rdptr := u.rdptr
    phase := u.phase
    tickcnt := u.tickcnt
    presc := u.presc
    hwOutcome := u.hwOutcome
    dly := if j = 0 then s.dly else 0
    beginAnswers := s.beginAnswers.drop j
    beginDraws := s.beginDraws + j
    waitAnswers := s.waitAnswers.drop j
    waitDraws := s.waitDraws + j }

/-- The invariant of the block (R43, and the rules named). It holds in every state a run from reset reaches. -/
structure Inv (s : State) : Prop where
  /-- the frame buffer's contents have their canonical form -/
  memory_wf : Memory.wf s.fb = true
  /-- every entry exists (R60, R67) -/
  memory_bound : ∀ e ∈ s.fb, e.1 < s.params.bufDepth
  /-- R43 items 1 to 3: there is no frame yet, or `PKT` and `FB` hold a frame built under a passed capacity check -/
  frame : s.flen = 0 ∨ ∃ c n, n < s.params.maxLeds - 1 ∧ HoldsFrame s c n
  /-- R43 item 5: a driver has a divider, 1 to 255 -/
  divider : s.drv = .ready → s.tickDiv ≠ 0
  /-- R43 item 6: an idle controller has an idle channel and no transaction -/
  idle_quiet : s.ctrl = .idle → s.ch = .idle ∧ s.txn = none ∧ s.inFade = false
  /-- a busy controller has a driver (R211) -/
  busy_ready : s.ctrl ≠ .idle → s.drv = .ready
  /-- R39: a transaction is pending exactly while the channel transmits -/
  txn_iff : s.txn.isSome = true ↔ s.ch = .transmitting
  /-- R69: the channel transmits only in `CTRL = TX` -/
  tx_only : s.ch = .transmitting → s.ctrl = .tx
  /-- R39: the transaction's length is the frame's, and there is a frame -/
  txn_len : ∀ n, s.txn = some n → n = s.flen ∧ s.flen ≠ 0
  /-- R28: `RDPTR` stays within the frame while the serializer runs -/
  rdptr_le : s.ch = .transmitting → s.rdptr.toNat ≤ s.flen.toNat
  /-- R26: `FSTEP` is 0 to 509 -/
  fstep_lt : s.fstep.toNat < FADE_STEPS
  /-- R238: only a fade delays, with the timer loaded -/
  delay_loaded : s.ctrl = .delay → s.inFade = true ∧ s.dly = FADE_DELAY_MS
  /-- R29: a response is seen only when the controller is idle again -/
  rsp_idle : s.rspValid = true → s.ctrl = .idle
  /-- R100: status values above 5 are never produced -/
  status_le : s.status.toNat ≤ 5
  /-- R41, R186: the line is driven once there is a driver -/
  line_driven : s.drv = .ready → s.line ≠ .z

/-- The tick period in nanoseconds (R311): `1000 * TICK_DIV / FREQ_MHZ`. Informative: no rule depends on it. -/
def State.tickNs (s : State) : ℚ := 1000 * (s.tickDiv.toNat : ℚ) / (s.freqMhz.toNat : ℚ)

/-- A waveform's length in cycles of the source clock (R209, R315): ticks times `TICK_DIV`. -/
def State.sourceCycles (s : State) (ws : List Seg) : Nat := totalTicks ws * s.tickDiv.toNat

/-- The gap FADE leaves after a frame is enough for the LEDs to latch (R300, R238): the line rests low, and the fade delay is at
least `T_RESET_US`. -/
def fadeGapSuffices (p : Params) : Bool := !p.idleAfterTx && decide (p.tResetUs ≤ 1000 * FADE_DELAY_MS)

end Sys2Proof.Machine
end

