-- ==== Sys2Proof/Certificates/Slice0/Obligations.lean ====
section
/-! DEFINITION. The statements for the provers. Each says which rules of the spec it formalises. -/

open Sys2Proof Sys2Proof.Config Sys2Proof.Machine

/-! ## Encodings (30_encoding.md) -/

/-- Decode and encode agree on every instruction, at every value of every operand (R94 to R97, R103, R104, R111); and every
instruction is well-formed, as R101 says: all operand values are legal as encodings. -/
def Obligations.DecodeOfEncodeIsTheInstruction : Prop :=
  ∀ i : Instr, i.wf = true ∧ encode i < 2 ^ i.nbits ∧ decodeTableWord i.nbits (encode i) = some i

/-- A word has one meaning: a word the decoder accepts is the word of the instruction it gives (R101, R111). -/
def Obligations.EncodeOfDecodedWordIsTheWord : Prop :=
  (∀ (w : CmdWord) (i : Instr), decodeCommand w = .ok i → encodeCommand i = some w) ∧
  (∀ (w : PulseWord) (i : Instr), decodePulse w = some i → encodePulse i = some w)

/-- R94 to R97: the match, the mask and the operand fields of the four commands, with the example word of each. -/
def Obligations.CommandsMatchTheirPatterns : Prop :=
  (∀ w : CmdWord, w &&& 0xFF000000FFFFFFFF#64 = 0x0100000000000000#64 →
    decodeCommand w = .ok (.construct (w.extractLsb' 40 16) (w.extractLsb' 32 8))) ∧
  (∀ w : CmdWord, w &&& 0xFF000000FF000000#64 = 0x0200000000000000#64 →
    decodeCommand w =
      .ok (.send ⟨w.extractLsb' 16 8, w.extractLsb' 8 8, w.extractLsb' 0 8⟩ (w.extractLsb' 32 8) (w.extractLsb' 40 16))) ∧
  (∀ w : CmdWord, w &&& 0xFF0000FFFF000000#64 = 0x0300000000000000#64 →
    decodeCommand w =
      .ok (.write ⟨w.extractLsb' 16 8, w.extractLsb' 8 8, w.extractLsb' 0 8⟩ (w.extractLsb' 40 16))) ∧
  (∀ w : CmdWord, w &&& 0xFF0000FFFF000000#64 = 0x0400000000000000#64 →
    decodeCommand w =
      .ok (.fade ⟨w.extractLsb' 16 8, w.extractLsb' 8 8, w.extractLsb' 0 8⟩ (w.extractLsb' 40 16))) ∧
  decodeCommand 0x0100500000000000#64 = .ok (.construct 80 0) ∧
  decodeCommand 0x0200027F00FF8001#64 = .ok (.send ⟨255, 128, 1⟩ 127 2) ∧
  decodeCommand 0x0300010000FF0000#64 = .ok (.write ⟨255, 0, 0⟩ 1) ∧
  decodeCommand 0x04000100000000FF#64 = .ok (.fade ⟨0, 0, 255⟩ 1)

/-- R101, its first two sentences: a word is legal exactly when it matches one of the four patterns. -/
def Obligations.LegalWordsAreTheFourPatterns : Prop :=
  ∀ w : CmdWord,
    (∃ i, decodeCommand w = .ok i) ↔
      (w &&& 0xFF000000FFFFFFFF#64 = 0x0100000000000000#64 ∨
        w &&& 0xFF000000FF000000#64 = 0x0200000000000000#64 ∨
        w &&& 0xFF0000FFFF000000#64 = 0x0300000000000000#64 ∨
        w &&& 0xFF0000FFFF000000#64 = 0x0400000000000000#64)

/-- Words written out from the encodings (the spec's vectors V70 to V84) decode to what they stand for. -/
def Obligations.WrittenWordsDecode : Prop :=
  decodeTableWord 64 0x0100A01200000000 = some (.construct 160 18) ∧
  decodeTableWord 64 0x0200027F00FF8001 = some (.send ⟨255, 128, 1⟩ 127 2) ∧
  decodeTableWord 64 0x0300060000010204 = some (.write ⟨1, 2, 4⟩ 6) ∧
  decodeTableWord 64 0x04000100000000FF = some (.fade ⟨0, 0, 255⟩ 1) ∧
  decodeTableWord 32 0x00098010 = some .one ∧
  decodeTableWord 32 0x00118008 = some .zero ∧
  decodeTableWord 32 0x00000000 = some .term ∧
  decodeTableWord 64 0x0000000000000000 = none ∧
  decodeTableWord 64 0x0100500000000001 = none ∧
  decodeTableWord 64 0x0200027F01FF8001 = none ∧
  decodeTableWord 64 0x0300017F00FF0000 = none ∧
  decodeTableWord 64 0x0400010100000000 = none

/-- R102: the packing of a PulseCode loses nothing, in either direction. -/
def Obligations.PulseCodePackingRoundTrip : Prop :=
  (∀ p : PulseCode, PulseCode.ofWord p.toWord = p) ∧ (∀ w : PulseWord, (PulseCode.ofWord w).toWord = w)

/-- R103: the two data symbols, as fields and as words; both last 25 ticks. -/
def Obligations.DataSymbols : Prop :=
  encOne = ⟨true, BitVec.ofNat 15 T1H, false, BitVec.ofNat 15 T1L⟩ ∧
  encZero = ⟨true, BitVec.ofNat 15 T0H, false, BitVec.ofNat 15 T0L⟩ ∧
  (T1H = 16 ∧ T1L = 9 ∧ T0H = 8 ∧ T0L = 17) ∧
  encOne.toWord = 0x00098010#32 ∧ encZero.toWord = 0x00118008#32 ∧
  T1H + T1L = 25 ∧ T0H + T0L = 25

/-! ## BitEncoder and the operands (40_bit_encoder.md, 43_transmit_driver.md) -/

/-- R130: the tick divider, its order of operations, its range and its corner cases. -/
def Obligations.TickDividerFormula : Prop :=
  (∀ f : BitVec 16, tickDivider f = (f.toNat * 5) / 100 ∧ tickDivider f = f.toNat / 20 ∧ tickDivider f ≤ 3276 ∧
    f.toNat * 5 < 2 ^ 32) ∧
  (∀ f : BitVec 16, f.toNat ≤ 19 → tickDivider f = 0) ∧
  (∀ f : BitVec 16, 20 ≤ f.toNat → f.toNat ≤ 39 → tickDivider f = 1) ∧
  (∀ f : BitVec 16, 80 ≤ f.toNat → f.toNat ≤ 99 → tickDivider f = 4) ∧
  (∀ f : BitVec 16, 5100 ≤ f.toNat → f.toNat ≤ 5119 → tickDivider f = 255) ∧
  tickDivider 5120 = 256 ∧ tickDivider 65535 = 3276

/-- R135: the ordering property of the two symbols, with the constants, all at least 1; and that their words differ (what R153
relies on). No configuration enters: the symbols are constants of the block. -/
def Obligations.SymbolOrdering : Prop :=
  encOne.dh.toNat = T1H ∧ encOne.dl.toNat = T1L ∧ encZero.dh.toNat = T0H ∧ encZero.dl.toNat = T0L ∧
  T0H < T1H ∧ T1L < T0L ∧ 1 ≤ T0H ∧ 1 ≤ T1L ∧ enc true ≠ enc false

/-- R192: the seven laws of the brightness scaling. -/
def Obligations.ScaleLaws : Prop :=
  (∀ c b : Byte, scale c b ≤ c) ∧
  (∀ c : Byte, scale c 255 = c) ∧
  (∀ c : Byte, scale c 0 = 0) ∧
  (∀ c c' b : Byte, c ≤ c' → scale c b ≤ scale c' b) ∧
  (∀ c b b' : Byte, b ≤ b' → scale c b ≤ scale c b') ∧
  (∀ c b : Byte, scale c b = 0 ↔ c.toNat * (b.toNat + 1) < 256) ∧
  (∀ b : Byte, scale 255 b = b ∧ scaleColor ⟨255, 255, 255⟩ b = ⟨b, b, b⟩)

/-- R232: the value at each of the 510 steps, half by half; where the halves begin and end; adjacent steps differ by exactly 1, and so
do the last step and the first. -/
def Obligations.RampValues : Prop :=
  (∀ k : BitVec 9, k.toNat ≤ 254 → (ramp k).toNat = k.toNat) ∧
  (∀ k : BitVec 9, 255 ≤ k.toNat → k.toNat ≤ 509 → (ramp k).toNat = 510 - k.toNat) ∧
  (∀ k : BitVec 9, k.toNat < 509 →
    (ramp (k + 1)).toNat = (ramp k).toNat + 1 ∨ (ramp (k + 1)).toNat + 1 = (ramp k).toNat) ∧
  ramp 0 = 0 ∧ ramp 254 = 254 ∧ ramp 255 = 255 ∧ ramp 509 = 1 ∧ (ramp 0).toNat + 1 = (ramp 509).toNat

/-- R230 and R234: the schedule has 3 x 510 steps, step `j` is step `j mod 510` of channel `j / 510` in the order blue, green,
red, and it is the order in which the controller goes from one step to the next. -/
def Obligations.FadeScheduleOrder : Prop :=
  fadeSchedule.length = 1530 ∧
  (∀ j, j < 510 → fadeSchedule[j]? = some (.blue, BitVec.ofNat 9 j)) ∧
  (∀ j, j < 510 → fadeSchedule[510 + j]? = some (.green, BitVec.ofNat 9 j)) ∧
  (∀ j, j < 510 → fadeSchedule[1020 + j]? = some (.red, BitVec.ofNat 9 j)) ∧
  (∀ j c k, fadeSchedule[j]? = some (c, k) → nextFadeStep c k = fadeSchedule[j + 1]?)

/-! ## PacketBuilder (41_packet_builder.md) -/

/-- R151: `PKT[j]` encodes bit `23 - j` of the wire word `{G, R, B}`. -/
def Obligations.PacketBitPositions : Prop :=
  ∀ (s : State) (j : Nat) (h : j < 24),
    (buildPacket s).pkt[j] = enc ((s.scol.g ++ s.scol.r ++ s.scol.b).getLsbD (23 - j))

/-- R154: decoding a built packet gives exactly the colour built, so BUILD_PACKET is injective; what is carried is `SCOL`. -/
def Obligations.PacketRoundTrip : Prop :=
  (∀ c : Color, decodePacket (packet c).toList = some c) ∧
  (∀ c c' : Color, packet c = packet c' → c = c') ∧
  (∀ s : State, decodePacket (buildPacket s).pkt.toList = some s.scol)

/-! ## FrameAssembler (42_frame_assembler.md) -/

/-- R166, the comparison: the accepted counts are exactly 0 to `MAX_LEDS - 2`; with `MAX_LEDS = 1` none is accepted. -/
def Obligations.CapacityBoundary : Prop :=
  (∀ (p : Params) (n : BitVec 16), capacityExceeded p n = false ↔ n.toNat + 2 ≤ p.maxLeds) ∧
  (∀ (p : Params) (n : BitVec 16), p.maxLeds = 1 → capacityExceeded p n = true)

/-- R168 and R172: BUILD_FRAME on a checked count writes the copies of `PKT` and the terminator, sets `FLEN`, leaves the entries
at `FLEN` and above, and changes nothing but `FB` and `FLEN`; no index is out of range. -/
def Obligations.BuildFrameWritesTheFrame : Prop :=
  ∀ s : State, capacityExceeded s.params s.count = false →
    ∃ t, buildFrame s = .ok t ∧
      t = { s with fb := t.fb, flen := t.flen } ∧
      t.flen.toNat = 24 * s.count.toNat + 1 ∧
      (∀ k j, k < s.count.toNat → (hj : j < 24) → Memory.read t.fb (24 * k + j) = some s.pkt[j]) ∧
      Memory.read t.fb (24 * s.count.toNat) = some termWord ∧
      (∀ i, t.flen.toNat ≤ i → Memory.read t.fb i = Memory.read s.fb i)

/-- R77: decoding the 24 entries of any LED position of a built frame yields `SCOL`, and every position holds the same 24 entries. -/
def Obligations.EveryLedPositionDecodesToScol : Prop :=
  ∀ s : State, capacityExceeded s.params s.count = false →
    ∃ t, buildFrame (buildPacket s) = .ok t ∧
      ∀ k, k < s.count.toNat →
        decodePacket ((List.range 24).filterMap fun j => Memory.read t.fb (24 * k + j)) = some s.scol ∧
        ∀ j, j < 24 → Memory.read t.fb (24 * k + j) = Memory.read t.fb j

/-! ## The serializer and DISPATCH (43_transmit_driver.md) -/

/-- R202 and R209: the waveform of a built frame has `48*COUNT` segments and `600*COUNT` ticks, and is, entry by entry, the two
segments of the bit. -/
def Obligations.FrameWaveform : Prop :=
  ∀ (c : Color) (n : Nat),
    (frameWave c n).length = 48 * n ∧
    totalTicks (frameWave c n) = 600 * n ∧
    frameWave c n =
      (List.replicate n (packetCodes c)).flatten.flatMap fun w =>
        if w = enc true then [⟨true, T1H⟩, ⟨false, T1L⟩] else [⟨true, T0H⟩, ⟨false, T0L⟩]

/-- R205: cutting a waveform whose segments last at least one tick. -/
def Obligations.PrefixTicksLaws : Prop :=
  ∀ ws : List Seg, (∀ g ∈ ws, 1 ≤ g.ticks) →
    prefixTicks ws 0 = [] ∧
    prefixTicks ws (totalTicks ws) = ws ∧
    (∀ m, totalTicks (prefixTicks ws m) = min m (totalTicks ws)) ∧
    (∀ m, ∃ k, prefixTicks ws m = ws.take k ∨
      ∃ g r, ws[k]? = some g ∧ 0 < r ∧ r < g.ticks ∧ prefixTicks ws m = ws.take k ++ [⟨g.level, r⟩])

/-- R203, its last sentence, with R201 row `done`: from `RDPTR` on, the serializer's emits are `wave` of the slice, whatever words
it holds; then `End`, the line at `IDLE_AFTER_TX`, no transaction and an idle channel, and nothing else but the serializer's
working registers has changed. -/
def Obligations.SerializerEmitsTheWave : Prop :=
  ∀ (s : State) (ws : List PulseWord),
    (∀ i (h : i < ws.length), Memory.read s.fb (s.rdptr.toNat + i) = some ws[i]) →
    s.rdptr.toNat + ws.length < 2 ^ 21 →
    s.hwOutcome = .done →
    ∃ t, transmit ws.length s = .done t ∧
      t =
        { s with
          out := s.out ++ segEvents (wave ws) ++ [.txEnd]
          line := .driven s.params.idleAfterTx
          txn := none
          ch := .idle
          rdptr := t.rdptr
          phase := t.phase
          tickcnt := t.tickcnt
          presc := t.presc }

/-- R201 rows `err(e, m)` and `never(m)`, with R205: a cut transmission emits the first `m` ticks of the waveform
(the line of a hang with `m = 0`: log 30). -/
def Obligations.CutSerializerEmitsThePrefix : Prop :=
  ∀ (s : State) (ws : List PulseWord) (m : Nat),
    (∀ i (h : i < ws.length), Memory.read s.fb (s.rdptr.toNat + i) = some ws[i]) →
    s.rdptr.toNat + ws.length < 2 ^ 21 →
    (∀ e, s.hwOutcome = .err e m →
      ∃ t, transmit ws.length s = .failed (.hardware e) t ∧
        t =
          { s with
            out := s.out ++ segEvents (prefixTicks (wave ws) m)
            line := .driven s.params.idleAfterTx
            txn := none
            ch := .idle
            rdptr := t.rdptr
            phase := t.phase
            tickcnt := t.tickcnt
            presc := t.presc
            hwOutcome := t.hwOutcome }) ∧
    (s.hwOutcome = .never m →
      ∃ t, transmit ws.length s = .hung t ∧
        t =
          { s with
            out := s.out ++ segEvents (prefixTicks (wave ws) m)
            line := lineAfter (prefixTicks (wave ws) m) s.line
            rdptr := t.rdptr
            phase := t.phase
            tickcnt := t.tickcnt
            presc := t.presc
            hwOutcome := .never (m - totalTicks (wave ws)) })

/-- The atomic transmission is what single steps do: from a state in the middle of a transmission, with no further input of the
host, the machine reaches in at most one step an entry (and one more) what `transmit` answers (log 1, R197, R203). -/
def Obligations.SerializerStepsAgreeWithTransmit : Prop :=
  ∀ (s : State) (n : Nat),
    Sending s → s.hostInputs = [] → s.rspValid = false →
    s.rdptr.toNat + n = s.flen.toNat →
    ∃ k, k ≤ n + 1 ∧ Host.Core.run Sys2Proof.core k s = resume (transmit n s)

/-- R201: the outcomes of DISPATCH on a frame in the frame buffer, row by row (the line of a hang with `m = 0`: log 30). -/
def Obligations.DispatchOutcomes : Prop :=
  ∀ (s : State) (c : Color) (n : Nat), HoldsFrame s c n →
    (∀ e, s.beginAt 0 = .err e →
      ∃ t, dispatch s = .failed (.hardware e) t ∧ t.out = s.out ∧ t.line = s.line ∧ t.ch = .idle ∧ t.waitDraws = s.waitDraws) ∧
    (s.beginAt 0 = .ok → s.waitAt 0 = .done →
      ∃ t, dispatch s = .done t ∧ t.out = s.out ++ segEvents (frameWave c n) ++ [.txEnd] ∧
        t.line = .driven s.params.idleAfterTx ∧ t.ch = .idle ∧ t.txn = none) ∧
    (∀ e m, s.beginAt 0 = .ok → s.waitAt 0 = .err e m →
      ∃ t, dispatch s = .failed (.hardware e) t ∧ t.out = s.out ++ segEvents (prefixTicks (frameWave c n) m) ∧
        t.line = .driven s.params.idleAfterTx ∧ t.ch = .idle ∧ t.txn = none) ∧
    (∀ m, s.beginAt 0 = .ok → s.waitAt 0 = .never m →
      ∃ t, dispatch s = .hung t ∧ t.out = s.out ++ segEvents (prefixTicks (frameWave c n) m) ∧
        t.line = lineAfter (prefixTicks (frameWave c n) m) s.line ∧ t.ch = .transmitting ∧ t.ctrl = .tx)

/-! ## The frame-buffer symbols as instructions (R132, R133, R104, R203) -/

/-- R132, R133 and R203: with a transaction pending whose outcome lets at least 25 more ticks out, ONE and ZERO put their two
segments on the line, advance `RDPTR` by 1, and change nothing else but the serializer's counters; what the counters hold between
two entries is the model's choice (log 12). -/
def Obligations.DataSymbolsEmitTheirSegments : Prop :=
  ∀ (s : State), s.ch = .transmitting → s.txn.isSome = true →
    (s.hwOutcome = .done ∨ ∃ m, 25 ≤ m ∧ (s.hwOutcome = .never m ∨ ∃ e, s.hwOutcome = .err e m)) →
    exec .one s =
      .next
        { s with
          out := s.out ++ [.seg true T1H, .seg false T1L]
          line := .driven false
          rdptr := s.rdptr + 1
          phase := .low
          tickcnt := 0
          presc := 0
          hwOutcome := spend 25 s.hwOutcome } ∧
    exec .zero s =
      .next
        { s with
          out := s.out ++ [.seg true T0H, .seg false T0L]
          line := .driven false
          rdptr := s.rdptr + 1
          phase := .low
          tickcnt := 0
          presc := 0
          hwOutcome := spend 25 s.hwOutcome }

/-- R203 and R205: with fewer than 25 ticks left before a failure or a hang, ONE and ZERO emit exactly those ticks of their two
segments. On a failure the hardware error is then raised, with the line at `IDLE_AFTER_TX` (R201, R257, R258); in a hang nothing
more changes (R268). That the line of a hang before the first tick is as it was is the model's reading (log 30), and that
`RDPTR` stays after a failure is its choice (log 12). -/
def Obligations.DataSymbolsAreCut : Prop :=
  ∀ (s : State) (m : Nat), s.ch = .transmitting → s.txn.isSome = true → m < 25 →
    ∀ i g0 g1, (i = Instr.one ∧ g0 = ⟨true, T1H⟩ ∧ g1 = ⟨false, T1L⟩) ∨ (i = Instr.zero ∧ g0 = ⟨true, T0H⟩ ∧ g1 = ⟨false, T0L⟩) →
      (∀ e, s.hwOutcome = .err e m →
        ∃ t, exec i s = .next t ∧
          t =
            { s with
              out := s.out ++ segEvents (prefixTicks [g0, g1] m)
              line := .driven s.params.idleAfterTx
              txn := none
              ch := .idle
              ctrl := .idle
              drv := if s.params.driverSurvivesError then s.drv else .unbuilt
              result := rspWord 0x02 e
              rspValid := true
              inFade := false
              phase := t.phase
              tickcnt := t.tickcnt
              presc := t.presc
              hwOutcome := t.hwOutcome }) ∧
      (s.hwOutcome = .never m →
        ∃ t, exec i s = .next t ∧
          t =
            { s with
              out := s.out ++ segEvents (prefixTicks [g0, g1] m)
              line := lineAfter (prefixTicks [g0, g1] m) s.line
              phase := t.phase
              tickcnt := t.tickcnt
              presc := t.presc
              hwOutcome := .never 0 })

/-- R104, R195 step 5, R201: TERM produces no segment and ends the transmission as its outcome says: `End` and the response, or
the fade delay inside a fade; the hardware error; or the hang, which changes nothing. That the serializer's
registers keep their values after the transmission is the model's choice (log 12). -/
def Obligations.TermEndsTheTransmission : Prop :=
  ∀ (s : State), s.ch = .transmitting → s.txn.isSome = true →
    (s.hwOutcome = .done → s.inFade = false →
      exec .term s =
        .next
          { s with
            out := s.out ++ [.txEnd]
            line := .driven s.params.idleAfterTx
            txn := none
            ch := .idle
            ctrl := .idle
            result := rspWord statusOk 0
            rspValid := true }) ∧
    (s.hwOutcome = .done → s.inFade = true →
      exec .term s =
        .next
          { s with
            out := s.out ++ [.txEnd]
            line := .driven s.params.idleAfterTx
            txn := none
            ch := .idle
            ctrl := .delay
            dly := FADE_DELAY_MS }) ∧
    (∀ e m, s.hwOutcome = .err e m →
      exec .term s =
        .next
          { s with
            line := .driven s.params.idleAfterTx
            txn := none
            ch := .idle
            ctrl := .idle
            drv := if s.params.driverSurvivesError then s.drv else .unbuilt
            result := rspWord 0x02 e
            rspValid := true
            inFade := false }) ∧
    (∀ m, s.hwOutcome = .never m → exec .term s = .next s)

/-! ## CONSTRUCT (R185 to R189, R253) -/

/-- R185: what CONSTRUCT does, for every operand, state and answer. With a divider of 1 to 255 (that is 20 to 5119 MHz, R131) and
the answer `ok` it builds the driver; with the answer `err(e)` it raises `ConfigError(e)`; with a divider out of range it raises
`ConfigError(e)` for some `e` (R187). Everything not named is unchanged. -/
def Obligations.ConstructEffect : Prop :=
  ∀ (f : BitVec 16) (p : Byte) (s : State),
    (20 ≤ f.toNat → f.toNat ≤ 5119 → s.cfgAt 0 = .ok →
      exec (.construct f p) s =
        .next
          { s with
            line := .driven true
            out := s.out ++ [.drive true]
            freqMhz := f
            pin := p
            tickDiv := BitVec.ofNat 8 (f.toNat * 5 / 100)
            drv := .ready
            result := rspWord statusOk 0
            rspValid := true
            ctrl := .idle
            inFade := false
            cfgAnswers := s.cfgAnswers.tail
            cfgDraws := s.cfgDraws + 1 }) ∧
    ((∃ e, s.cfgAt 0 = .err e) ∨ f.toNat < 20 ∨ 5119 < f.toNat →
      ∃ e, (∀ e', s.cfgAt 0 = .err e' → e = e') ∧
        exec (.construct f p) s =
          .next
            { s with
              line := .driven true
              out := s.out ++ [.drive true]
              freqMhz := f
              pin := p
              tickDiv := 0
              drv := .unbuilt
              ch := .idle
              txn := none
              result := rspWord 0x03 e
              rspValid := true
              ctrl := .idle
              inFade := false
              cfgAnswers := s.cfgAnswers.tail
              cfgDraws := s.cfgDraws + 1 })

/-- R188 on success, with R311: from a state of the invariant, a CONSTRUCT that answers `OK` leaves `DRV = READY`, a divider of 1
to 255, an idle channel, no transaction and an idle controller; and at a multiple of 20 MHz the tick is exactly 50 ns. -/
def Obligations.ConstructLeavesAReadyDriver : Prop :=
  ∀ (f : BitVec 16) (p : Byte) (s t : State), Inv s → s.ctrl = .idle → exec (.construct f p) s = .next t → t.status = statusOk →
    t.drv = .ready ∧ 1 ≤ t.tickDiv.toNat ∧ t.tickDiv.toNat ≤ 255 ∧ t.ch = .idle ∧ t.txn = none ∧ t.ctrl = .idle ∧
      t.line = .driven true ∧ t.flen = s.flen ∧ 20 ≤ f.toNat ∧ f.toNat ≤ 5119 ∧ (20 ∣ f.toNat → t.tickNs = (TICK_REF_NS : ℚ))

/-! ## SEND and WRITE (R191, R194, R195) -/

/-- R194, R195, R201: WRITE on a ready block, with a count that passes the check and good answers, completes: the colour is copied,
the frame built, sent whole, and `(OK, 0)` delivered. `RDPTR` stops at the terminator (R28, R203); that it stays there after the
transmission is the model's choice (log 12). -/
def Obligations.WriteCompletes : Prop :=
  ∀ (c : Color) (n : BitVec 16) (s : State),
    s.drv = .ready → n.toNat + 2 ≤ s.params.maxLeds → s.beginAt 0 = .ok → s.waitAt 0 = .done →
    ∃ t, exec (.write c n) s = .next t ∧ Completed (writeBase c n s) t

/-- R191, R190, R195, R201: SEND likewise, with the scaled colour; `RDPTR` stops at the terminator (R28, R203), and that it stays
there after the transmission is the model's choice (log 12). -/
def Obligations.SendCompletes : Prop :=
  ∀ (c : Color) (br : Byte) (n : BitVec 16) (s : State),
    s.drv = .ready → n.toNat + 2 ≤ s.params.maxLeds → s.beginAt 0 = .ok → s.waitAt 0 = .done →
    ∃ t, exec (.send c br n) s = .next t ∧ Completed (sendBase c br n s) t

/-- R201 first row, R252, R257: a begin-transmit that fails ends SEND and WRITE with `(ERR_HW, e)` and nothing emitted.
That the serializer's registers are then as they were is the model's reading (log 21). -/
def Obligations.SendAndWriteBeginError : Prop :=
  ∀ (c : Color) (br : Byte) (n : BitVec 16) (s : State) (e : BitVec 32),
    s.drv = .ready → n.toNat + 2 ≤ s.params.maxLeds → s.beginAt 0 = .err e →
    (∃ t, exec (.send c br n) s = .next t ∧ BeginFailed e (sendBase c br n s) t) ∧
    (∃ t, exec (.write c n) s = .next t ∧ BeginFailed e (writeBase c n s) t)

/-- R201 third row, R205, R252, R257: a wait that fails after `m` ticks ends SEND and WRITE with `(ERR_HW, e)`, the first `m` ticks
emitted and no `End`. -/
def Obligations.SendAndWriteWaitError : Prop :=
  ∀ (c : Color) (br : Byte) (n : BitVec 16) (s : State) (e : BitVec 32) (m : Nat),
    s.drv = .ready → n.toNat + 2 ≤ s.params.maxLeds → s.beginAt 0 = .ok → s.waitAt 0 = .err e m →
    (∃ t, exec (.send c br n) s = .next t ∧ WaitFailed e m (sendBase c br n s) t) ∧
    (∃ t, exec (.write c n) s = .next t ∧ WaitFailed e m (writeBase c n s) t)

/-- R201 last row, R268: a wait that never ends leaves SEND and WRITE hanging in `TX`, without a response. That the line of a
hang before the first tick is as it was is the model's reading (log 30). -/
def Obligations.SendAndWriteHang : Prop :=
  ∀ (c : Color) (br : Byte) (n : BitVec 16) (s : State) (m : Nat),
    s.drv = .ready → n.toNat + 2 ≤ s.params.maxLeds → s.beginAt 0 = .ok → s.waitAt 0 = .never m →
    (∃ t, exec (.send c br n) s = .next t ∧ HangsAfter m (sendBase c br n s) t) ∧
    (∃ t, exec (.write c n) s = .next t ∧ HangsAfter m (writeBase c n s) t)

/-- R254: SEND, WRITE and FADE without a driver latch their operands, deliver `(ERR_NOT_READY, 0)`, and change nothing else
(`CH`, `TXN`, `CTRL` and the fade mark are those of an idle block, R257). -/
def Obligations.NotReadyWithoutADriver : Prop :=
  ∀ (c : Color) (br : Byte) (n : BitVec 16) (s : State), s.drv = .unbuilt →
    exec (.send c br n) s =
      .next
        { s with
          color := c, bri := br, count := n, result := rspWord 0x05 0, rspValid := true, ctrl := .idle, ch := .idle, txn := none
          inFade := false } ∧
    exec (.write c n) s =
      .next
        { s with
          color := c, count := n, result := rspWord 0x05 0, rspValid := true, ctrl := .idle, ch := .idle, txn := none
          inFade := false } ∧
    exec (.fade c n) s =
      .next
        { s with
          color := c, count := n, result := rspWord 0x05 0, rspValid := true, ctrl := .idle, ch := .idle, txn := none
          inFade := false }

/-- R166, R196, R237, R251, R258: a count of `MAX_LEDS - 1` or more ends SEND, WRITE and FADE with `(ERR_CAPACITY, 0)`: only the
operand latches, `SCOL`, `RESULT`, for a fade its own registers, and `DRV` as R258 says, have changed; the oracle is not asked
and the frame buffer is as it was. -/
def Obligations.CapacityErrorBeforeHardware : Prop :=
  ∀ (c : Color) (br : Byte) (n : BitVec 16) (s : State), s.drv = .ready → s.params.maxLeds ≤ n.toNat + 1 →
    exec (.send c br n) s =
      .next
        { s with
          color := c, bri := br, count := n, scol := scaleColor c br
          drv := if s.params.driverSurvivesError then .ready else .unbuilt
          result := rspWord 0x01 0, rspValid := true, ctrl := .idle, ch := .idle, txn := none, inFade := false } ∧
    exec (.write c n) s =
      .next
        { s with
          color := c, count := n, scol := c
          drv := if s.params.driverSurvivesError then .ready else .unbuilt
          result := rspWord 0x01 0, rspValid := true, ctrl := .idle, ch := .idle, txn := none, inFade := false } ∧
    exec (.fade c n) s =
      .next
        { s with
          color := c, count := n, scol := ⟨c.r, c.g, 0⟩, fc := ⟨c.r, c.g, 0⟩, fch := .blue, fstep := 0
          drv := if s.params.driverSurvivesError then .ready else .unbuilt
          result := rspWord 0x01 0, rspValid := true, ctrl := .idle, ch := .idle, txn := none, inFade := false }

/-- R110: `SEND c, 255, n` answers as `WRITE c, n` does, and `SEND c, 0, n` as `WRITE Color{0,0,0}, n`, whatever the state and the
oracle; the states they leave differ only in `COLOR` and `BRI`. -/
def Obligations.SendAtFullAndZeroBrightness : Prop :=
  ∀ (c : Color) (n : BitVec 16) (s : State),
    (∀ t, exec (.write c n) s = .next t → exec (.send c 255 n) s = .next { t with bri := 255 }) ∧
    (∀ t, exec (.write ⟨0, 0, 0⟩ n) s = .next t → exec (.send c 0 n) s = .next { t with color := c, bri := 0 })

/-- The frame of SEND and WRITE in all their endings: the registers neither names are unchanged, so is every entry above the
frame; without a driver, or with a count that fails the check, every entry is. -/
def Obligations.SendAndWriteLeaveTheRest : Prop :=
  ∀ (c : Color) (br : Byte) (n : BitVec 16) (s t : State),
    exec (.send c br n) s = .next t ∨ exec (.write c n) s = .next t →
    (t.freqMhz = s.freqMhz ∧ t.pin = s.pin ∧ t.tickDiv = s.tickDiv ∧ t.fc = s.fc ∧ t.fch = s.fch ∧ t.fstep = s.fstep ∧
      t.dly = s.dly ∧ t.params = s.params ∧ t.hostInputs = s.hostInputs ∧ t.cfgAnswers = s.cfgAnswers ∧ t.cfgDraws = s.cfgDraws) ∧
    (exec (.write c n) s = .next t → t.bri = s.bri) ∧
    (∀ i, 24 * n.toNat < i → Memory.read t.fb i = Memory.read s.fb i) ∧
    (s.drv = .unbuilt ∨ s.params.maxLeds ≤ n.toNat + 1 → t.fb = s.fb ∧ t.flen = s.flen ∧ t.pkt = s.pkt ∧ t.out = s.out)

/-- R206 for SEND and WRITE: whatever the oracle answers, a command that responds `OK` has put the whole waveform and `End` on
`OUT`. The premise that no response was pending tells a response from a hang. -/
def Obligations.OkMeansTheWholeFrameWasSent : Prop :=
  ∀ (c : Color) (br : Byte) (n : BitVec 16) (s t : State), s.rspValid = false →
    (exec (.write c n) s = .next t → t.rspValid = true → t.status = statusOk →
      t.out = s.out ++ frameEvents c n.toNat) ∧
    (exec (.send c br n) s = .next t → t.rspValid = true → t.status = statusOk →
      t.out = s.out ++ frameEvents (scaleColor c br) n.toNat)

/-! ## FADE (44_animation_sequencer.md) -/

/-- R236: with a count that passes the check and answers that never fail, FADE performs all 1530 steps and responds `(OK, 0)`. `RDPTR`
stands at the terminator (R203); that it stays there after the transmission is the model's choice (log 12). -/
def Obligations.FadeCompletes : Prop :=
  ∀ (c : Color) (n : BitVec 16) (s : State),
    s.drv = .ready → n.toNat + 2 ≤ s.params.maxLeds →
    (∀ k, k < 1530 → s.beginAt k = .ok ∧ s.waitAt k = .done) →
    ∃ t, exec (.fade c n) s = .next t ∧
      t =
        { s with
          color := c
          count := n
          fch := .red
          fstep := 509
          fc := compositeColor s.params c .red 509
          scol := compositeColor s.params c .red 509
          pkt := packet (compositeColor s.params c .red 509)
          fb := t.fb
          flen := BitVec.ofNat 21 (24 * n.toNat + 1)
          ctrl := .idle
          ch := .idle
          txn := none
          rdptr := BitVec.ofNat 21 (24 * n.toNat)
          phase := t.phase
          tickcnt := t.tickcnt
          presc := t.presc
          line := .driven s.params.idleAfterTx
          out := s.out ++ fadeEvents s.params c n.toNat fadeSchedule
          dly := 0
          result := rspWord statusOk 0
          rspValid := true
          beginAnswers := s.beginAnswers.drop 1530
          beginDraws := s.beginDraws + 1530
          waitAnswers := s.waitAnswers.drop 1530
          waitDraws := s.waitDraws + 1530
          hwOutcome := .done
          inFade := false } ∧
      HoldsFrame t (compositeColor s.params c .red 509) n.toNat ∧
      ∀ i, 24 * n.toNat < i → Memory.read t.fb i = Memory.read s.fb i

/-- R237: a hardware error at step `j`, from the begin or from the wait, aborts the fade there: the steps before it have completed
with their delays, no delay follows the failed write, `FCH` and `FSTEP` are those of step `j`, and the response is that error.
That a failed begin leaves the serializer's registers as they were is the model's reading (log 21). -/
def Obligations.FadeAbortsAtTheFirstError : Prop :=
  ∀ (c : Color) (n : BitVec 16) (s : State) (j : Nat) (ch : FadeChannel) (k : BitVec 9) (e : BitVec 32),
    s.drv = .ready → n.toNat + 2 ≤ s.params.maxLeds → fadeSchedule[j]? = some (ch, k) →
    (∀ i, i < j → s.beginAt i = .ok ∧ s.waitAt i = .done) →
    (s.beginAt j = .err e →
      ∃ t u, exec (.fade c n) s = .next t ∧ BeginFailed e (fadeBase c n j ch k s u) t ∧ (j = 0 → u = s) ∧
        ∀ i, 24 * n.toNat < i → Memory.read t.fb i = Memory.read s.fb i) ∧
    (∀ m, s.beginAt j = .ok → s.waitAt j = .err e m →
      ∃ t u, exec (.fade c n) s = .next t ∧ WaitFailed e m (fadeBase c n j ch k s u) t ∧ (j = 0 → u = s) ∧
        ∀ i, 24 * n.toNat < i → Memory.read t.fb i = Memory.read s.fb i)

/-- R268 inside a fade: a wait that never ends at step `j` leaves the fade hanging there (the line with `m = 0`:
log 30). -/
def Obligations.FadeHangsAtAStep : Prop :=
  ∀ (c : Color) (n : BitVec 16) (s : State) (j : Nat) (ch : FadeChannel) (k : BitVec 9) (m : Nat),
    s.drv = .ready → n.toNat + 2 ≤ s.params.maxLeds → fadeSchedule[j]? = some (ch, k) →
    (∀ i, i < j → s.beginAt i = .ok ∧ s.waitAt i = .done) →
    s.beginAt j = .ok → s.waitAt j = .never m →
    ∃ t u, exec (.fade c n) s = .next t ∧ HangsAfter m (fadeBase c n j ch k s u) t ∧ (j = 0 → u = s) ∧
      ∀ i, 24 * n.toNat < i → Memory.read t.fb i = Memory.read s.fb i

/-- R206 and R263 for FADE: whatever the oracle answers, a fade that responds `OK` has put all 1530 frames, each with its `End` and
its `Delay(5)`, on `OUT`. -/
def Obligations.OkFadeSentEveryFrame : Prop :=
  ∀ (c : Color) (n : BitVec 16) (s t : State), s.rspValid = false →
    exec (.fade c n) s = .next t → t.rspValid = true → t.status = statusOk →
    t.out = s.out ++ fadeEvents s.params c n.toNat fadeSchedule

/-- R230 to R234 over a whole pass of painting: `fadePaint` step after step gives the composite colours of R233. -/
def Obligations.PaintingFollowsTheCompositeTable : Prop :=
  ∀ (s : State) (j : Nat) (c : FadeChannel) (k : BitVec 9), s.fc = s.color → fadeSchedule[j]? = some (c, k) →
    ((fadeSchedule.take (j + 1)).foldl (fun u ck => fadePaint ck.1 ck.2 u) s).scol = compositeColor s.params s.color c k

/-! ## Steps: ports, reset, the hang (R29, R268, R270, R290) -/

/-- A step runs the decoded instruction: a word offered to an idle block that decodes to `i` makes the step `exec i`, with the word
taken from the port and no response valid (R29, R93); offered to run in single steps, it makes the step `start i` (log 1). -/
def Obligations.StepRunsTheOfferedCommand : Prop :=
  ∀ (s : State) (w : CmdWord) (rest : List HostInput) (i : Instr), s.ctrl = .idle → decodeCommand w = .ok i →
    (s.hostInputs = .command .whole w :: rest → step s = exec i { s with rspValid := false, hostInputs := rest }) ∧
    (s.hostInputs = .command .stepwise w :: rest → step s = start i { s with rspValid := false, hostInputs := rest })

/-- What a command started in single steps reaches is what `exec` answers (log 1, R10): from an idle block of the invariant, with the
host doing nothing more or holding its next word, some number of steps after the start answers exactly the state of `exec`, the
response, the error or the hang. -/
def Obligations.SingleStepsReachWhatExecAnswers : Prop :=
  ∀ (s t : State) (i : Instr), Inv s → s.ctrl = .idle → s.rspValid = false → Undisturbed s → i.nbits = 64 →
    exec i s = .next t →
    ∃ u k, start i s = .next u ∧ Host.Core.run Sys2Proof.core k u = .next t

/-- A step runs the fetched entry: while the serializer is at work and the entry at `RDPTR` decodes to `i`, the step is `exec i`
(R203, R105), whether the host does nothing, holds a command word, which stays offered (R270), or lets a step pass, which leaves its
script. -/
def Obligations.StepRunsTheFetchedEntry : Prop :=
  ∀ (s : State) (left : List HostInput) (w : PulseWord) (i : Instr),
    Sending s → s.rdptr.toNat < s.flen.toNat → Memory.read s.fb s.rdptr.toNat = some w → decodePulse w = some i →
    (s.hostInputs = .pause :: left ∨
      (s.hostInputs = left ∧ (left = [] ∨ ∃ pace v rest, left = .command pace v :: rest))) →
    step s = exec i { s with rspValid := false, hostInputs := left }

/-- R255: an illegal word offered to an idle block is answered `(ERR_ILLEGAL, 0)` and changes `RESULT` only. -/
def Obligations.IllegalWordAnswer : Prop :=
  ∀ (s : State) (pace : Pace) (w : CmdWord) (rest : List HostInput),
    Inv s → s.hostInputs = .command pace w :: rest → s.ctrl = .idle → (∀ i, decodeCommand w ≠ .ok i) →
    step s = .next { s with result := rspWord 0x04 0, rspValid := true, hostInputs := rest }

/-- R270 (and D27): a word offered while the block is busy is not accepted in that step and stays offered, at the head of the host's script
(log 8). -/
def Obligations.BusyBlockHoldsTheCommand : Prop :=
  ∀ (s t : State) (pace : Pace) (w : CmdWord) (rest : List HostInput),
    s.hostInputs = .command pace w :: rest → s.ctrl ≠ .idle → step s = .next t → t.hostInputs = s.hostInputs

/-- R268: a hung block stays as it is whatever command is offered, for ever; there is no response. -/
def Obligations.HungBlockStaysHung : Prop :=
  ∀ (s : State), Inv s → Hung s → (∀ rest, s.hostInputs ≠ .reset :: rest) → (∀ rest, s.hostInputs ≠ .pause :: rest) →
    ∀ k, Host.Core.run Sys2Proof.core k s = .next s

/-- R290 to R292: `rst` at any time, in a transmission, a delay or a hang, gives every piece of the block's state its value of R46,
and the command in progress gets no response. That the host's script and the parameters stay is the model's choice (log 8).
R292, R307: and `rst` can fall inside a command: a SEND, WRITE or FADE that runs in single steps (log 1) is still transmitting,
without a response and with the first `k` entries of its (first) frame on `OUT`, when `k + 2` steps have passed and `rst` is next;
and a FADE is in its first delay when its whole first frame is out. -/
def Obligations.ResetFromAnyState : Prop :=
  (∀ (s : State) (rest : List HostInput), s.hostInputs = .reset :: rest →
    ∃ t, step s = .next t ∧ t.ctrl = .idle ∧ t.drv = .unbuilt ∧ t.ch = .idle ∧ t.txn = none ∧ t.tickDiv = 0 ∧ t.flen = 0 ∧
      t.color = ⟨0, 0, 0⟩ ∧ t.bri = 0 ∧ t.count = 0 ∧ t.scol = ⟨0, 0, 0⟩ ∧ t.fc = ⟨0, 0, 0⟩ ∧ t.fch.code = 0 ∧ t.fstep = 0 ∧
      t.rdptr = 0 ∧ t.phase = .high ∧ t.tickcnt = 0 ∧ t.presc = 0 ∧ t.freqMhz = 0 ∧ t.pin = 0 ∧ t.result = 0 ∧ t.dly = 0 ∧
      t.line = .z ∧ t.out = [] ∧ t.cmdReady = true ∧ t.busy = false ∧ t.rspValid = false ∧ t.hostInputs = rest ∧
      t.params = s.params) ∧
  (∀ (s : State) (w : CmdWord) (i : Instr) (c col : Color) (br : Byte) (n : BitVec 16) (k : Nat) (rest : List HostInput),
    s.ctrl = .idle → s.drv = .ready → n.toNat + 2 ≤ s.params.maxLeds → s.beginAt 0 = .ok → s.waitAt 0 = .done →
    (i = .send c br n ∧ col = scaleColor c br ∨ i = .write c n ∧ col = c ∨
      i = .fade c n ∧ col = compositeColor s.params c .blue 0) →
    decodeCommand w = .ok i →
    s.hostInputs = .command .stepwise w :: (List.replicate (k + 1) .pause ++ .reset :: rest) →
    (k ≤ BITS_PER_LED * n.toNat →
      ∃ u, Host.Core.run Sys2Proof.core (k + 2) s = .next u ∧ Sending u ∧ u.rdptr.toNat = k ∧ u.rspValid = false ∧
        u.result = s.result ∧ u.out = s.out ++ segEvents ((frameWave col n.toNat).take (2 * k)) ∧
        u.hostInputs = .reset :: rest) ∧
    (i = .fade c n → k = BITS_PER_LED * n.toNat + 1 →
      ∃ u, Host.Core.run Sys2Proof.core (k + 2) s = .next u ∧ u.ctrl = .delay ∧ u.dly = FADE_DELAY_MS ∧ u.rspValid = false ∧
        u.result = s.result ∧ u.out = s.out ++ frameEvents col n.toNat ∧ u.hostInputs = .reset :: rest))

/-- R46: the values the table gives for `State.reset`, row by row (the rows `PKT` and `FB` are unspecified there). -/
def Obligations.ResetValues : Prop :=
  State.reset.color = ⟨0, 0, 0⟩ ∧ State.reset.bri = 0 ∧ State.reset.count = 0 ∧ State.reset.scol = ⟨0, 0, 0⟩ ∧
  State.reset.fc = ⟨0, 0, 0⟩ ∧ State.reset.fch.code = 0 ∧ State.reset.fstep = 0 ∧ State.reset.ctrl = .idle ∧
  State.reset.rdptr = 0 ∧ State.reset.phase = .high ∧ State.reset.tickcnt = 0 ∧ State.reset.presc = 0 ∧
  State.reset.busy = false ∧ State.reset.cmdReady = true ∧ State.reset.rspValid = false ∧ State.reset.freqMhz = 0 ∧
  State.reset.pin = 0 ∧ State.reset.tickDiv = 0 ∧ State.reset.drv = .unbuilt ∧ State.reset.ch = .idle ∧ State.reset.flen = 0 ∧
  State.reset.result = 0 ∧ State.reset.txn = none ∧ State.reset.out = [] ∧ State.reset.line = .z ∧ State.reset.dly = 0

/-- R293: nothing happens until the host issues a command: an idle block that is offered nothing only ends the cycle in which a
response was valid. -/
def Obligations.IdleBlockWaits : Prop :=
  ∀ (s : State), s.ctrl = .idle → s.hostInputs = [] → step s = .next { s with rspValid := false }

/-! ## The whole machine -/

/-- The invariant holds at reset. -/
def Obligations.ResetMeetsTheInvariant : Prop := Inv State.reset

/-- R43 and the rules named in `Inv`: every step keeps the invariant, from every state that meets it. -/
def Obligations.EveryStepKeepsTheInvariant : Prop :=
  ∀ s t : State, Inv s → step s = .next t → Inv t

/-- R47, R67 and R265: from a state of the invariant every step has a next state, whatever the oracle answers: no unwritten entry is
read, no index is out of range, nothing is refused. -/
def Obligations.NoStepStops : Prop := ∀ s : State, Inv s → Runs (step s)

/-- R37, R45: the parameters of the block are never changed. -/
def Obligations.ParametersNeverChange : Prop := ∀ s t : State, step s = .next t → t.params = s.params

/-- R40, R71 item 4: but for `rst`, a step only appends to the output trace. -/
def Obligations.TraceOnlyGrows : Prop :=
  ∀ s t : State, s.rstAsserted = false → step s = .next t → ∃ es, t.out = s.out ++ es

/-- R33, R254: only a CONSTRUCT that succeeds makes a driver. -/
def Obligations.OnlyConstructMakesADriver : Prop :=
  ∀ s t : State, s.drv = .unbuilt → step s = .next t → t.drv = .ready →
    ∃ pace w rest f p, s.hostInputs = .command pace w :: rest ∧ s.ctrl = .idle ∧ decodeCommand w = .ok (.construct f p) ∧
      t.status = statusOk

/-- R44: `TICK_DIV`, `PIN` and `FREQ_MHZ` change only in the step that accepts a CONSTRUCT (and at `rst`). -/
def Obligations.ConfigurationRegistersChangeOnlyInConstruct : Prop :=
  ∀ s t : State, s.rstAsserted = false → step s = .next t →
    (t.tickDiv = s.tickDiv ∧ t.pin = s.pin ∧ t.freqMhz = s.freqMhz) ∨
      ∃ pace w rest f p, s.hostInputs = .command pace w :: rest ∧ s.ctrl = .idle ∧ decodeCommand w = .ok (.construct f p)

/-- R258, and what R257 says of the registers: what raising an error does. -/
def Obligations.RaiseEffect : Prop :=
  ∀ (e : Err) (s : State),
    (raise e s).ctrl = .idle ∧ (raise e s).ch = .idle ∧ (raise e s).txn = none ∧ (raise e s).rspValid = true ∧
    (raise e s).status = e.status ∧ (raise e s).detail = e.detail ∧
    (s.params.driverSurvivesError = true → (∀ code, e ≠ .config code) → (raise e s).drv = s.drv) ∧
    (s.params.driverSurvivesError = false → (e = .capacity ∨ ∃ code, e = .hardware code) → (raise e s).drv = .unbuilt) ∧
    (e = .illegal ∨ e = .notReady → (raise e s).drv = s.drv) ∧
    (∀ code, e = .config code → (raise e s).drv = .unbuilt) ∧
    (raise e s).fb = s.fb ∧ (raise e s).out = s.out ∧ (raise e s).line = s.line
end

