-- ==== Sys2Proof/Laws/Encoding.lean ====
section
/-! SUPPORT. Cutting a word into its fields undoes putting it together, for command words (R93) and response words (R99). -/

namespace Sys2Proof

theorem splitCommand_joinCommand (f : CommandFields) : splitCommand (joinCommand f) = f := by
  obtain ⟨op, wide, mid, rsv, r, g, b⟩ := f
  simp only [splitCommand, joinCommand, CommandFields.mk.injEq]
  refine ⟨?_, ?_, ?_, ?_, ?_, ?_, ?_⟩ <;>
    (apply BitVec.eq_of_getLsbD_eq
     intro i hi
     simp only [BitVec.getLsbD_extractLsb', BitVec.getLsbD_append, hi, decide_true, Bool.true_and]
     interval_cases i <;> rfl)

theorem joinCommand_splitCommand (w : CmdWord) : joinCommand (splitCommand w) = w := by
  simp only [splitCommand, joinCommand]
  apply BitVec.eq_of_getLsbD_eq
  intro i hi
  simp only [BitVec.getLsbD_extractLsb', BitVec.getLsbD_append]
  interval_cases i <;> simp

namespace Machine

theorem rspWord_status (x : Byte) (d : BitVec 32) : (rspWord x d).extractLsb' 0 8 = x := by
  apply BitVec.eq_of_getLsbD_eq
  intro i hi
  simp only [rspWord, BitVec.getLsbD_extractLsb', BitVec.getLsbD_append, hi, decide_true, Bool.true_and]
  interval_cases i <;> rfl

theorem rspWord_detail (x : Byte) (d : BitVec 32) : (rspWord x d).extractLsb' 8 32 = d := by
  apply BitVec.eq_of_getLsbD_eq
  intro i hi
  simp only [rspWord, BitVec.getLsbD_extractLsb', BitVec.getLsbD_append, hi, decide_true, Bool.true_and]
  interval_cases i <;> rfl

end Machine

end Sys2Proof
end

