-- ==== Sys2Proof/Laws/Memory.lean ====
section
/-! SUPPORT. The frame buffer: what a read gives after a write, what a run of writes leaves, and that every operation keeps
the canonical form. -/

namespace Sys2Proof.Machine

open Sys2Proof.Config

theorem Memory.read_write (m : Memory) (i j : Nat) (v : PulseWord) :
    Memory.read (Memory.write m i v) j = if j = i then some v else Memory.read m j := by
  induction m with
  | nil => simp only [Memory.write, Memory.read, eq_comm]
  | cons e m ih =>
    obtain ⟨a, w⟩ := e
    rw [Memory.write]
    split
    · simp only [Memory.read, eq_comm (a := i)]
    · split
      · subst a
        by_cases hj : j = i
        · subst hj; simp [Memory.read]
        · simp [Memory.read, hj, Ne.symm hj]
      · rw [Memory.read, Memory.read, ih]
        by_cases ha : a = j
        · subst ha; simp [*]
        · simp [ha]

/-- The entries of a memory after a write: those it had, and the one written. -/
theorem Memory.mem_write {m : Memory} {i : Nat} {v : PulseWord} {e : Nat × PulseWord} (h : e ∈ Memory.write m i v) :
    e ∈ m ∨ e = (i, v) := by
  induction m with
  | nil => simpa [Memory.write] using h
  | cons f m ih =>
    obtain ⟨a, w⟩ := f
    simp only [Memory.write] at h
    split at h
    · simp only [List.mem_cons] at h ⊢; tauto
    · split at h
      · simp only [List.mem_cons] at h ⊢; tauto
      · simp only [List.mem_cons] at h ⊢
        obtain h | h := h
        · exact .inl (.inl h)
        · obtain h | h := ih h
          · exact .inl (.inr h)
          · exact .inr h

theorem Memory.wf_write (m : Memory) (i : Nat) (v : PulseWord) (h : Memory.wf m = true) :
    Memory.wf (Memory.write m i v) = true := by
  induction m with
  | nil => simp [Memory.write, Memory.wf]
  | cons e m ih =>
    obtain ⟨a, w⟩ := e
    simp only [Memory.wf, List.map_cons, List.pairwise_cons, decide_eq_true_eq, List.mem_map, forall_exists_index,
      and_imp, forall_apply_eq_imp_iff₂] at h ih ⊢
    simp only [Memory.write]
    split
    · rename_i hlt
      simp only [List.map_cons, List.pairwise_cons, List.mem_cons, List.mem_map]
      refine ⟨?_, ?_, h.2⟩
      · rintro x (rfl | ⟨y, hy, rfl⟩)
        · exact hlt
        · exact lt_trans hlt (h.1 y hy)
      · rintro x ⟨y, hy, rfl⟩; exact h.1 y hy
    · split
      · subst a
        simp only [List.map_cons, List.pairwise_cons, List.mem_map]
        exact ⟨by rintro x ⟨y, hy, rfl⟩; exact h.1 y hy, h.2⟩
      · simp only [List.map_cons, List.pairwise_cons, List.mem_map]
        refine ⟨?_, ih h.2⟩
        rintro x ⟨y, hy, rfl⟩
        obtain hy | rfl := Memory.mem_write hy
        · exact h.1 y hy
        · simp only; omega

/-- The memory after writing words at consecutive indices. -/
def Memory.writeList (m : Memory) (i : Nat) : List PulseWord → Memory
  | [] => m
  | v :: vs => Memory.writeList (Memory.write m i v) (i + 1) vs

theorem Memory.wf_writeList (m : Memory) (i : Nat) (vs : List PulseWord) (h : Memory.wf m = true) :
    Memory.wf (Memory.writeList m i vs) = true := by
  induction vs generalizing m i with
  | nil => exact h
  | cons v vs ih => exact ih _ _ (Memory.wf_write m i v h)

theorem Memory.read_writeList (m : Memory) (i : Nat) (vs : List PulseWord) (j : Nat) :
    Memory.read (Memory.writeList m i vs) j = if i ≤ j ∧ j < i + vs.length then vs[j - i]? else Memory.read m j := by
  induction vs generalizing m i with
  | nil => simp only [Memory.writeList, List.length_nil]; split <;> [omega; rfl]
  | cons v vs ih =>
    rw [Memory.writeList, ih, Memory.read_write m i j v, List.length_cons]
    rcases Nat.lt_trichotomy j i with hj | rfl | hj
    · rw [if_neg (by omega), if_neg (by omega), if_neg (by omega)]
    · rw [if_neg (by omega), if_pos rfl, if_pos (by omega)]; simp
    · by_cases hb : j < i + (vs.length + 1)
      · rw [if_pos (by omega), if_pos (by omega)]
        obtain ⟨d, rfl⟩ : ∃ d, j = i + 1 + d := ⟨j - (i + 1), by omega⟩
        rw [show i + 1 + d - (i + 1) = d by omega, show i + 1 + d - i = d + 1 by omega, List.getElem?_cons_succ]
      · rw [if_neg (by omega), if_neg (by omega), if_neg (by omega)]

theorem Memory.mem_writeList {m : Memory} {i : Nat} {vs : List PulseWord} {e : Nat × PulseWord}
    (h : e ∈ Memory.writeList m i vs) : e ∈ m ∨ (i ≤ e.1 ∧ e.1 < i + vs.length) := by
  induction vs generalizing m i with
  | nil => exact .inl h
  | cons v vs ih =>
    obtain h | h := ih h
    · obtain h | rfl := Memory.mem_write h
      · exact .inl h
      · exact .inr (by simp)
    · exact .inr (by simp only [List.length_cons]; omega)

/-- Writing words at consecutive indices that all exist does not fault, and changes `FB` only. -/
theorem State.writeEntries_ok (s : State) (i : Nat) (vs : List PulseWord) (h : i + vs.length ≤ s.params.bufDepth) :
    s.writeEntries i vs = .ok { s with fb := Memory.writeList s.fb i vs } := by
  induction vs generalizing s i with
  | nil => rfl
  | cons v vs ih =>
    rw [List.length_cons] at h
    have hi : i < s.params.bufDepth := by omega
    have hw : s.writeFb i v = .ok { s with fb := Memory.write s.fb i v } := by simp [State.writeFb, hi]
    rw [State.writeEntries, hw]
    exact ih { s with fb := Memory.write s.fb i v } (i + 1) (by simpa using by omega)

theorem frameWords_length (pkt : Vector PulseWord 24) (n : Nat) : (frameWords pkt n).length = 24 * n + 1 := by
  simp [frameWords, List.length_flatten, Nat.mul_comm]

/-- Entry `i` of a frame: entry `i mod 24` of the packet, then the terminator (R62). -/
theorem getElem?_flatten_replicate (pkt : Vector PulseWord 24) (n i : Nat) (h : i < 24 * n) :
    (List.replicate n pkt.toList).flatten[i]? = pkt.toList[i % 24]? := by
  induction n generalizing i with
  | zero => omega
  | succ n ih =>
    rw [List.replicate_succ, List.flatten_cons]
    by_cases hi : i < 24
    · rw [List.getElem?_append_left (by simpa using hi), Nat.mod_eq_of_lt hi]
    · rw [List.getElem?_append_right (by simpa using hi), Vector.length_toList, ih (i - 24) (by omega),
        ← Nat.mod_eq_sub_mod (by omega)]

theorem frameWords_data (pkt : Vector PulseWord 24) (n i : Nat) (h : i < 24 * n) :
    (frameWords pkt n)[i]? = pkt.toList[i % 24]? := by
  rw [frameWords, List.getElem?_append_left (by simp [List.length_flatten]; omega), getElem?_flatten_replicate pkt n i h]

theorem frameWords_terminator (pkt : Vector PulseWord 24) (n : Nat) : (frameWords pkt n)[24 * n]? = some termWord := by
  rw [frameWords, List.getElem?_append_right (by simp [List.length_flatten]; omega)]
  simp [List.length_flatten, Nat.mul_comm]

theorem capacityExceeded_eq_false {p : Params} {n : BitVec 16} :
    capacityExceeded p n = false ↔ n.toNat + 2 ≤ p.maxLeds := by
  simp only [capacityExceeded, decide_eq_false_iff_not, not_le]; omega

theorem capacityExceeded_eq_true {p : Params} {n : BitVec 16} :
    capacityExceeded p n = true ↔ p.maxLeds ≤ n.toNat + 1 := by
  simp only [capacityExceeded, decide_eq_true_eq]; omega

/-- BUILD_FRAME on a checked count (R168): it does not fault, and changes `FB` and `FLEN` only. -/
theorem buildFrame_ok (s : State) (h : s.count.toNat + 2 ≤ s.params.maxLeds) :
    buildFrame s =
      .ok
        { s with
          fb := Memory.writeList s.fb 0 (frameWords s.pkt s.count.toNat)
          flen := BitVec.ofNat 21 (BITS_PER_LED * s.count.toNat + 1) } := by
  have hd : 0 + (frameWords s.pkt s.count.toNat).length ≤ s.params.bufDepth := by
    rw [frameWords_length, Params.bufDepth, BITS_PER_LED]; omega
  rw [buildFrame, State.writeEntries_ok s 0 _ hd]

/-! ## Every operation keeps the canonical form, and reset has it -/

theorem wf_reset : Memory.wf State.reset.fb = true := rfl

theorem State.writeFb_wf {s t : State} {i : Nat} {v : PulseWord} (hs : Memory.wf s.fb = true) (h : s.writeFb i v = .ok t) :
    Memory.wf t.fb = true := by
  unfold State.writeFb at h
  split at h <;> cases h
  exact Memory.wf_write _ _ _ hs

theorem State.writeEntries_wf {s t : State} {i : Nat} {vs : List PulseWord} (hs : Memory.wf s.fb = true)
    (h : s.writeEntries i vs = .ok t) : Memory.wf t.fb = true := by
  induction vs generalizing s i with
  | nil => cases h; exact hs
  | cons v vs ih =>
    rw [State.writeEntries] at h
    cases hw : s.writeFb i v with
    | error f => rw [hw] at h; cases h
    | ok u => rw [hw] at h; exact ih (State.writeFb_wf hs hw) h

theorem buildFrame_wf {s t : State} (hs : Memory.wf s.fb = true) (h : buildFrame s = .ok t) : Memory.wf t.fb = true := by
  unfold buildFrame at h
  cases hw : s.writeEntries 0 (frameWords s.pkt s.count.toNat) with
  | error f => rw [hw] at h; cases h
  | ok u => rw [hw] at h; cases h; exact State.writeEntries_wf (t := u) hs hw

end Sys2Proof.Machine
end

