-- ==== Sys2Proof/Laws/PerInstr.lean ====
section
/-! SUPPORT. Statements about every instruction as syntax, one lemma for each constructor. -/

namespace Sys2Proof.Laws.OnePort

/-- An instruction has a word on exactly one of the two ports: a 64-bit command word or a 32-bit frame-buffer entry (R108). -/
def Statement (i : Instr) : Prop :=
  ((encodeCommand i).isSome = true ↔ i.nbits = 64) ∧ ((encodePulse i).isSome = true ↔ i.nbits = 32)

theorem construct (freqMhz : BitVec 16) (pin : Byte) : Statement (.construct freqMhz pin) := 
  ⟨by simp [encodeCommand, Instr.fields, Instr.nbits], by simp [encodePulse, Instr.nbits]⟩

theorem send (color : Color) (brightness : Byte) (count : BitVec 16) : Statement (.send color brightness count) :=
  ⟨by simp [encodeCommand, Instr.fields, Instr.nbits], by simp [encodePulse, Instr.nbits]⟩

theorem write (color : Color) (count : BitVec 16) : Statement (.write color count) :=
  ⟨by simp [encodeCommand, Instr.fields, Instr.nbits], by simp [encodePulse, Instr.nbits]⟩

theorem fade (target : Color) (count : BitVec 16) : Statement (.fade target count) :=
  ⟨by simp [encodeCommand, Instr.fields, Instr.nbits], by simp [encodePulse, Instr.nbits]⟩

theorem one : Statement .one := ⟨by decide, by decide⟩
theorem zero : Statement .zero := ⟨by decide, by decide⟩
theorem term : Statement .term := ⟨by decide, by decide⟩

end Sys2Proof.Laws.OnePort
end

