-- ==== Sys2Proof/Laws/Serializer.lean ====
section
/-! SUPPORT. What holding the line and executing one entry can do, said once (R203, R205). -/

namespace Sys2Proof.Machine

open Sys2Proof.Config

/-- `u` is `s` after the waveform `ws` has reached the line: `OUT`, `LINE` and the outcome's remaining ticks are those of `s` with
`ws` emitted, the serializer's working registers are any, and nothing else differs. -/
def Emitted (s : State) (ws : List Seg) (u : State) : Prop :=
  u =
    { s with
      out := s.out ++ segEvents ws
      line := lineAfter ws s.line
      hwOutcome := spend (totalTicks ws) s.hwOutcome
      rdptr := u.rdptr
      phase := u.phase
      tickcnt := u.tickcnt
      presc := u.presc }

/-- The waveform as far as the outcome lets it go (R200, R205). -/
def cutWave (o : WaitResult) (ws : List Seg) : List Seg :=
  match budget o with
  | none => ws
  | some m => prefixTicks ws m

@[simp] theorem segEvents_nil : segEvents [] = [] := rfl
@[simp] theorem segEvents_cons (g : Seg) (gs : List Seg) :
    segEvents (g :: gs) = .seg g.level g.ticks :: segEvents gs := rfl
@[simp] theorem segEvents_append (gs hs : List Seg) : segEvents (gs ++ hs) = segEvents gs ++ segEvents hs := by
  simp [segEvents]
@[simp] theorem totalTicks_nil : totalTicks [] = 0 := rfl
@[simp] theorem totalTicks_cons (g : Seg) (gs : List Seg) : totalTicks (g :: gs) = g.ticks + totalTicks gs := by
  simp [totalTicks]
@[simp] theorem totalTicks_append (gs hs : List Seg) : totalTicks (gs ++ hs) = totalTicks gs + totalTicks hs := by
  simp [totalTicks]
@[simp] theorem lineAfter_nil (l : Line) : lineAfter [] l = l := rfl
@[simp] theorem lineAfter_cons (g : Seg) (gs : List Seg) (l : Line) :
    lineAfter (g :: gs) l = lineAfter gs (.driven g.level) := by
  cases gs <;> simp [lineAfter, List.getLast?_cons]

theorem lineAfter_append (gs hs : List Seg) (l : Line) : lineAfter (gs ++ hs) l = lineAfter hs (lineAfter gs l) := by
  induction gs generalizing l with
  | nil => rfl
  | cons g gs ih => simp [ih]

@[simp] theorem spend_zero (o : WaitResult) : spend 0 o = o := by cases o <;> rfl
@[simp] theorem spend_spend (a b : Nat) (o : WaitResult) : spend b (spend a o) = spend (a + b) o := by
  cases o <;> simp [spend, Nat.sub_sub]
@[simp] theorem spend_done (k : Nat) : spend k .done = .done := rfl
@[simp] theorem spend_err (k : Nat) (e : BitVec 32) (m : Nat) : spend k (.err e m) = .err e (m - k) := rfl
@[simp] theorem spend_never (k m : Nat) : spend k (.never m) = .never (m - k) := rfl
@[simp] theorem budget_spend (k : Nat) (o : WaitResult) : budget (spend k o) = (budget o).map (· - k) := by
  cases o <;> rfl

theorem Emitted.refl (s : State) : Emitted s [] s := by simp [Emitted, segEvents_nil, totalTicks_nil]

theorem Emitted.trans {s u v : State} {ws xs : List Seg} (h : Emitted s ws u) (k : Emitted u xs v) :
    Emitted s (ws ++ xs) v := by
  rw [Emitted] at h k ⊢
  rw [k, h]
  simp [lineAfter_append, List.append_assoc]

theorem Emitted.hwOutcome_eq {s u : State} {ws : List Seg} (h : Emitted s ws u) :
    u.hwOutcome = spend (totalTicks ws) s.hwOutcome := by rw [h]

theorem Emitted.fb_eq {s u : State} {ws : List Seg} (h : Emitted s ws u) : u.fb = s.fb := by rw [h]

theorem Emitted.params_eq {s u : State} {ws : List Seg} (h : Emitted s ws u) : u.params = s.params := by rw [h]

/-- The whole of a half, or exactly the part of it that the outcome allows. -/
theorem runHalf_emitted (ph : Phase) (l : Level) (load ran : Nat) (s : State) :
    Emitted s [⟨l, ran⟩] (runHalf ph l load ran s) := by
  simp [Emitted, runHalf, emit]

theorem runHalf_keeps_rdptr (ph : Phase) (l : Level) (load ran : Nat) (s : State) :
    (runHalf ph l load ran s).rdptr = s.rdptr := rfl

/-- Everything holding a half can do: the half is out whole, or the outcome's ticks ran out inside it or before it. -/
theorem hold_cases (ph : Phase) (l : Level) (ticks : BitVec 15) (s : State) :
    (hold ph l ticks s = .whole (runHalf ph l ticks.toNat ticks.toNat s) ∧
      ∀ m, budget s.hwOutcome = some m → ticks.toNat ≤ m) ∨
    (∃ m, budget s.hwOutcome = some m ∧ m < ticks.toNat ∧
      ((m = 0 ∧ hold ph l ticks s = .cut s) ∨ (m ≠ 0 ∧ hold ph l ticks s = .cut (runHalf ph l ticks.toNat m s)))) := by
  unfold hold
  cases h : budget s.hwOutcome with
  | none => exact .inl ⟨rfl, by simp⟩
  | some m =>
    by_cases hm : ticks.toNat ≤ m
    · exact .inl ⟨by simp [hm], by rintro m' ⟨⟩; exact hm⟩
    · refine .inr ⟨m, rfl, by omega, ?_⟩
      by_cases h0 : m = 0
      · subst h0; exact .inl ⟨rfl, by simp [hm]⟩
      · exact .inr ⟨h0, by simp [hm, h0]⟩

/-- The waveform of one entry (R202, R203). -/
def entryWave (p : PulseCode) : List Seg :=
  if p.dh = 0 then []
  else if p.dl = 0 then [⟨p.lh, p.dh.toNat⟩]
  else [⟨p.lh, p.dh.toNat⟩, ⟨p.ll, p.dl.toNat⟩]

theorem entryWave_zero_high {p : PulseCode} (h : p.dh = 0) : entryWave p = [] := if_pos h

theorem entryWave_zero_low {p : PulseCode} (h : ¬ p.dh = 0) (l : p.dl = 0) : entryWave p = [⟨p.lh, p.dh.toNat⟩] := by
  rw [entryWave, if_neg h, if_pos l]

theorem entryWave_whole {p : PulseCode} (h : ¬ p.dh = 0) (l : ¬ p.dl = 0) :
    entryWave p = [⟨p.lh, p.dh.toNat⟩, ⟨p.ll, p.dl.toNat⟩] := by
  rw [entryWave, if_neg h, if_neg l]

/-- A waveform is that of its first entry, and of the rest when both halves of the first last at least one tick (R202). -/
theorem wave_stops {w : PulseWord} (ws : List PulseWord) (h : (PulseCode.ofWord w).dh = 0 ∨ (PulseCode.ofWord w).dl = 0) :
    wave (w :: ws) = entryWave (PulseCode.ofWord w) := by
  rw [wave, entryWave]
  by_cases hh : (PulseCode.ofWord w).dh = 0
  · simp only [if_pos hh]
  · simp only [if_neg hh, if_pos (h.resolve_left hh)]

theorem wave_goes_on {w : PulseWord} (ws : List PulseWord)
    (h : ¬ ((PulseCode.ofWord w).dh = 0 ∨ (PulseCode.ofWord w).dl = 0)) :
    wave (w :: ws) = entryWave (PulseCode.ofWord w) ++ wave ws := by
  rw [not_or] at h
  rw [wave, entryWave_whole h.1 h.2]
  simp only [if_neg h.1, if_neg h.2, List.cons_append, List.nil_append]

theorem toNat_ne_zero {n : Nat} {x : BitVec n} (h : ¬ x = 0) : x.toNat ≠ 0 := fun h' => h (BitVec.eq_of_toNat_eq (by simpa using h'))

/-- Everything executing an entry can do: stop at a zero duration, go on with `RDPTR` advanced, or be cut with exactly the ticks the
outcome allows. -/
theorem serializeEntry_cases (p : PulseCode) (s : State) :
    (∃ u, serializeEntry p s = .stopped u ∧ (p.dh = 0 ∨ p.dl = 0) ∧ Emitted s (entryWave p) u ∧ u.rdptr = s.rdptr ∧
      ∀ m, budget s.hwOutcome = some m → totalTicks (entryWave p) ≤ m) ∨
    (∃ u, serializeEntry p s = .running u ∧ ¬ (p.dh = 0 ∨ p.dl = 0) ∧ Emitted s (entryWave p) u ∧ u.rdptr = s.rdptr + 1 ∧
      ∀ m, budget s.hwOutcome = some m → totalTicks (entryWave p) ≤ m) ∨
    (∃ u m, serializeEntry p s = .cut u ∧ budget s.hwOutcome = some m ∧ m < totalTicks (entryWave p) ∧ u.rdptr = s.rdptr ∧
      Emitted s (prefixTicks (entryWave p) m) u ∧ totalTicks (prefixTicks (entryWave p) m) = m) := by
  unfold serializeEntry
  by_cases hh : p.dh = 0
  · rw [if_pos hh, entryWave_zero_high hh]
    exact .inl ⟨s, rfl, .inl hh, Emitted.refl s, rfl, by simp⟩
  rw [if_neg hh]
  have hpos := toNat_ne_zero hh
  obtain ⟨h1, hb1⟩ | ⟨m, hm, hlt, hc⟩ := hold_cases .high p.lh p.dh s
  · rw [h1]
    have e1 := runHalf_emitted .high p.lh p.dh.toNat p.dh.toNat s
    have r1 := runHalf_keeps_rdptr .high p.lh p.dh.toNat p.dh.toNat s
    generalize runHalf .high p.lh p.dh.toNat p.dh.toNat s = s1 at e1 r1
    by_cases hl : p.dl = 0
    · rw [entryWave_zero_low hh hl]
      simp only [if_pos hl]
      exact .inl ⟨s1, rfl, .inr hl, e1, r1, by simpa using hb1⟩
    have hlpos := toNat_ne_zero hl
    rw [entryWave_whole hh hl]
    simp only [if_neg hl]
    obtain ⟨h2, hb2⟩ | ⟨m, hm, hlt, hc⟩ := hold_cases .low p.ll p.dl s1
    · rw [h2]
      have e2 := e1.trans (runHalf_emitted .low p.ll p.dl.toNat p.dl.toNat s1)
      have r2 := runHalf_keeps_rdptr .low p.ll p.dl.toNat p.dl.toNat s1
      generalize runHalf .low p.ll p.dl.toNat p.dl.toNat s1 = s2 at e2 r2
      refine .inr (.inl ⟨{ s2 with rdptr := s2.rdptr + 1 }, rfl, by tauto, ?_, by simp [r2, r1], ?_⟩)
      · rw [Emitted, List.cons_append, List.nil_append] at e2
        rw [Emitted, e2]
      · intro m hm
        have h3 := hb1 m hm
        have h4 := hb2 (m - p.dh.toNat) (by rw [e1.hwOutcome_eq, budget_spend, hm]; simp)
        simp only [totalTicks_cons, totalTicks_nil]; omega
    · rw [e1.hwOutcome_eq, budget_spend] at hm
      obtain ⟨m0, hm0, rfl⟩ := Option.map_eq_some_iff.mp hm
      have h3 := hb1 m0 hm0
      simp only [totalTicks_cons, totalTicks_nil, Nat.add_zero] at hlt hc
      refine .inr (.inr ?_)
      obtain ⟨h0, hc⟩ | ⟨h0, hc⟩ := hc
      · refine ⟨s1, m0, by rw [hc], hm0, by simp only [totalTicks_cons, totalTicks_nil]; omega, r1, ?_⟩
        have hp : prefixTicks [⟨p.lh, p.dh.toNat⟩, ⟨p.ll, p.dl.toNat⟩] m0 = [⟨p.lh, p.dh.toNat⟩] := by
          simp only [prefixTicks, h3, h0, if_true]
          rw [if_neg (by omega)]
        rw [hp]
        exact ⟨e1, by simp only [totalTicks_cons, totalTicks_nil]; omega⟩
      · refine ⟨runHalf .low p.ll p.dl.toNat (m0 - p.dh.toNat) s1, m0, by rw [hc], hm0,
          by simp only [totalTicks_cons, totalTicks_nil]; omega, r1, ?_⟩
        have hp : prefixTicks [⟨p.lh, p.dh.toNat⟩, ⟨p.ll, p.dl.toNat⟩] m0 =
            [⟨p.lh, p.dh.toNat⟩, ⟨p.ll, m0 - p.dh.toNat⟩] := by
          simp only [prefixTicks, h3, if_true]
          rw [if_neg (by omega), if_neg h0]
        rw [hp]
        exact ⟨e1.trans (runHalf_emitted .low p.ll p.dl.toNat (m0 - p.dh.toNat) s1),
          by simp only [totalTicks_cons, totalTicks_nil]; omega⟩
  · refine .inr (.inr ?_)
    obtain ⟨r, hw⟩ : ∃ r, entryWave p = ⟨p.lh, p.dh.toNat⟩ :: r := by
      rw [entryWave, if_neg hh]; split <;> exact ⟨_, rfl⟩
    rw [hw]
    obtain ⟨rfl, hc⟩ | ⟨h0, hc⟩ := hc
    · refine ⟨s, 0, by rw [hc], hm, by simp only [totalTicks_cons]; omega, rfl, ?_⟩
      rw [prefixTicks, if_neg (by simpa using hpos), if_pos rfl]
      exact ⟨Emitted.refl s, rfl⟩
    · refine ⟨runHalf .high p.lh p.dh.toNat m s, m, by rw [hc], hm, by simp only [totalTicks_cons]; omega, rfl, ?_⟩
      rw [prefixTicks, if_neg (by simpa using hlt), if_neg h0]
      exact ⟨runHalf_emitted .high p.lh p.dh.toNat m s, by simp⟩

/-! ## The whole transmission -/

theorem prefixTicks_append_of_le (ws xs : List Seg) (m : Nat) (h : totalTicks ws ≤ m) :
    prefixTicks (ws ++ xs) m = ws ++ prefixTicks xs (m - totalTicks ws) := by
  induction ws generalizing m with
  | nil => simp
  | cons g gs ih =>
    rw [totalTicks_cons] at h
    rw [List.cons_append, prefixTicks, if_pos (by omega), ih (m - g.ticks) (by omega), totalTicks_cons, Nat.sub_sub,
      List.cons_append]

theorem prefixTicks_append_of_lt (ws xs : List Seg) (m : Nat) (h : m < totalTicks ws) :
    prefixTicks (ws ++ xs) m = prefixTicks ws m := by
  induction ws generalizing m with
  | nil => simp at h
  | cons g gs ih =>
    rw [totalTicks_cons] at h
    rw [List.cons_append, prefixTicks, prefixTicks]
    split
    · rw [ih (m - g.ticks) (by omega)]
    · rfl

theorem prefixTicks_of_le (ws : List Seg) (m : Nat) (h : totalTicks ws ≤ m) : prefixTicks ws m = ws := by
  simpa [prefixTicks] using prefixTicks_append_of_le ws [] m h

theorem cutWave_of_le {o : WaitResult} {ws : List Seg} (h : ∀ m, budget o = some m → totalTicks ws ≤ m) :
    cutWave o ws = ws := by
  unfold cutWave
  cases hb : budget o with
  | none => rfl
  | some m => exact prefixTicks_of_le ws m (h m hb)

theorem cutWave_append {o : WaitResult} {ws : List Seg} (xs : List Seg) (h : ∀ m, budget o = some m → totalTicks ws ≤ m) :
    cutWave o (ws ++ xs) = ws ++ cutWave (spend (totalTicks ws) o) xs := by
  unfold cutWave
  rw [budget_spend]
  cases hb : budget o with
  | none => rfl
  | some m => exact prefixTicks_append_of_le ws xs m (h m hb)

theorem cutWave_of_lt {o : WaitResult} {m : Nat} (hb : budget o = some m) (ws xs : List Seg) (h : m < totalTicks ws) :
    cutWave o (ws ++ xs) = prefixTicks ws m := by
  unfold cutWave
  rw [hb]
  exact prefixTicks_append_of_lt ws xs m h

/-- The entries the serializer leaves behind it before it stops at a zero duration (R203). -/
def wholeEntries (ws : List PulseWord) : Nat :=
  (ws.takeWhile fun w => decide (¬ ((PulseCode.ofWord w).dh = 0 ∨ (PulseCode.ofWord w).dl = 0))).length

/-- Everything a transmission can do before it is settled: the waveform of the slice reaches the line as far as the outcome lets it,
`RDPTR` stays within the slice, and without a cut it stands at the entry that stopped the serializer. -/
theorem transmit_spec (ws : List PulseWord) (s : State)
    (hr : ∀ i (h : i < ws.length), Memory.read s.fb (s.rdptr.toNat + i) = some ws[i])
    (hb : s.rdptr.toNat + ws.length < 2 ^ 21) :
    ∃ u, transmit ws.length s = settle u ∧ Emitted s (cutWave s.hwOutcome (wave ws)) u ∧
      s.rdptr.toNat ≤ u.rdptr.toNat ∧ u.rdptr.toNat ≤ s.rdptr.toNat + ws.length ∧
      ((∀ m, budget s.hwOutcome = some m → totalTicks (wave ws) ≤ m) →
        u.rdptr.toNat = s.rdptr.toNat + wholeEntries ws) := by
  induction ws generalizing s with
  | nil =>
    refine ⟨s, rfl, ?_, le_rfl, le_rfl, fun _ => rfl⟩
    rw [cutWave_of_le (by simp [wave])]
    exact Emitted.refl s
  | cons w ws ih =>
    have h0 : Memory.read s.fb s.rdptr.toNat = some w := hr 0 (Nat.succ_pos _)
    have hrd : s.readFb s.rdptr.toNat = .ok w := by rw [State.readFb, h0]
    rw [List.length_cons] at hb
    rw [List.length_cons, transmit, hrd]
    obtain ⟨u, hu, hz, he, hp, hm⟩ | ⟨u, hu, hz, he, hp, hm⟩ | ⟨u, m, hu, hbm, hlt, hp, he, ht⟩ :=
      serializeEntry_cases (PulseCode.ofWord w) s
    · simp only [hu]
      refine ⟨u, rfl, ?_, by rw [hp], by rw [hp]; omega, fun _ => ?_⟩
      · rw [wave_stops ws hz, cutWave_of_le hm]; exact he
      · rw [hp, wholeEntries, List.takeWhile_cons_of_neg (by simpa only [decide_eq_true_eq, not_not] using hz)]; rfl
    · simp only [hu]
      have hp1 : u.rdptr.toNat = s.rdptr.toNat + 1 := by
        rw [hp, BitVec.toNat_add, show (1 : BitVec 21).toNat = 1 from rfl]; omega
      obtain ⟨v, hv, hev, hle, hge, hst⟩ := ih u
        (fun i h => by
          rw [he.fb_eq, hp1]
          have := hr (i + 1) (by simpa using h)
          rw [List.getElem_cons_succ] at this
          rw [← this]; congr 1; omega)
        (by rw [hp1]; omega)
      refine ⟨v, hv, ?_, by omega, by omega, fun hb' => ?_⟩
      · rw [wave_goes_on ws hz, cutWave_append _ hm]
        rw [he.hwOutcome_eq] at hev
        exact he.trans hev
      · have hstop := hst (fun m hm' => by
          rw [he.hwOutcome_eq, budget_spend] at hm'
          obtain ⟨m0, hm0, rfl⟩ := Option.map_eq_some_iff.mp hm'
          have := hb' m0 hm0
          rw [wave_goes_on ws hz, totalTicks_append] at this
          omega)
        rw [hstop, hp1, wholeEntries, wholeEntries, List.takeWhile_cons_of_pos (by simpa only [decide_eq_true_eq] using hz), List.length_cons]
        omega
    · simp only [hu]
      have hw : ∃ xs, wave (w :: ws) = entryWave (PulseCode.ofWord w) ++ xs := by
        by_cases hz : (PulseCode.ofWord w).dh = 0 ∨ (PulseCode.ofWord w).dl = 0
        · exact ⟨[], by rw [wave_stops ws hz, List.append_nil]⟩
        · exact ⟨wave ws, wave_goes_on ws hz⟩
      obtain ⟨xs, hw⟩ := hw
      refine ⟨u, rfl, ?_, by rw [hp], by rw [hp]; omega, fun hb' => ?_⟩
      · rw [hw, cutWave_of_lt hbm _ _ hlt]; exact he
      · have := hb' m hbm
        rw [hw, totalTicks_append] at this
        omega

end Sys2Proof.Machine
end

