-- ==== Sys2Proof/Laws/State.lean ====
section
/-! SUPPORT. One lemma for each field after each named update of the state, so that no proof unfolds a record update. -/

namespace Sys2Proof.Machine

open Sys2Proof.Config

/-! ## emit -/

section
variable (l : Level) (k : Nat) (s : State)

@[simp] theorem emit_color : (emit l k s).color = s.color := rfl
@[simp] theorem emit_bri : (emit l k s).bri = s.bri := rfl
@[simp] theorem emit_count : (emit l k s).count = s.count := rfl
@[simp] theorem emit_scol : (emit l k s).scol = s.scol := rfl
@[simp] theorem emit_pkt : (emit l k s).pkt = s.pkt := rfl
@[simp] theorem emit_fc : (emit l k s).fc = s.fc := rfl
@[simp] theorem emit_fch : (emit l k s).fch = s.fch := rfl
@[simp] theorem emit_fstep : (emit l k s).fstep = s.fstep := rfl
@[simp] theorem emit_ctrl : (emit l k s).ctrl = s.ctrl := rfl
@[simp] theorem emit_rdptr : (emit l k s).rdptr = s.rdptr := rfl
@[simp] theorem emit_phase : (emit l k s).phase = s.phase := rfl
@[simp] theorem emit_tickcnt : (emit l k s).tickcnt = s.tickcnt := rfl
@[simp] theorem emit_presc : (emit l k s).presc = s.presc := rfl
@[simp] theorem emit_rspValid : (emit l k s).rspValid = s.rspValid := rfl
@[simp] theorem emit_freqMhz : (emit l k s).freqMhz = s.freqMhz := rfl
@[simp] theorem emit_pin : (emit l k s).pin = s.pin := rfl
@[simp] theorem emit_tickDiv : (emit l k s).tickDiv = s.tickDiv := rfl
@[simp] theorem emit_drv : (emit l k s).drv = s.drv := rfl
@[simp] theorem emit_ch : (emit l k s).ch = s.ch := rfl
@[simp] theorem emit_flen : (emit l k s).flen = s.flen := rfl
@[simp] theorem emit_result : (emit l k s).result = s.result := rfl
@[simp] theorem emit_fb : (emit l k s).fb = s.fb := rfl
@[simp] theorem emit_txn : (emit l k s).txn = s.txn := rfl
@[simp] theorem emit_out : (emit l k s).out = s.out ++ [.seg l k] := rfl
@[simp] theorem emit_line : (emit l k s).line = .driven l := rfl
@[simp] theorem emit_dly : (emit l k s).dly = s.dly := rfl
@[simp] theorem emit_params : (emit l k s).params = s.params := rfl
@[simp] theorem emit_hostInputs : (emit l k s).hostInputs = s.hostInputs := rfl
@[simp] theorem emit_cfgAnswers : (emit l k s).cfgAnswers = s.cfgAnswers := rfl
@[simp] theorem emit_cfgDraws : (emit l k s).cfgDraws = s.cfgDraws := rfl
@[simp] theorem emit_beginAnswers : (emit l k s).beginAnswers = s.beginAnswers := rfl
@[simp] theorem emit_beginDraws : (emit l k s).beginDraws = s.beginDraws := rfl
@[simp] theorem emit_waitAnswers : (emit l k s).waitAnswers = s.waitAnswers := rfl
@[simp] theorem emit_waitDraws : (emit l k s).waitDraws = s.waitDraws := rfl
@[simp] theorem emit_hwOutcome : (emit l k s).hwOutcome = s.hwOutcome := rfl
@[simp] theorem emit_inFade : (emit l k s).inFade = s.inFade := rfl

end

/-! ## respond -/

section
variable (x : Byte) (d : BitVec 32) (s : State)

@[simp] theorem respond_color : (respond x d s).color = s.color := rfl
@[simp] theorem respond_bri : (respond x d s).bri = s.bri := rfl
@[simp] theorem respond_count : (respond x d s).count = s.count := rfl
@[simp] theorem respond_scol : (respond x d s).scol = s.scol := rfl
@[simp] theorem respond_pkt : (respond x d s).pkt = s.pkt := rfl
@[simp] theorem respond_fc : (respond x d s).fc = s.fc := rfl
@[simp] theorem respond_fch : (respond x d s).fch = s.fch := rfl
@[simp] theorem respond_fstep : (respond x d s).fstep = s.fstep := rfl
@[simp] theorem respond_ctrl : (respond x d s).ctrl = .idle := rfl
@[simp] theorem respond_rdptr : (respond x d s).rdptr = s.rdptr := rfl
@[simp] theorem respond_phase : (respond x d s).phase = s.phase := rfl
@[simp] theorem respond_tickcnt : (respond x d s).tickcnt = s.tickcnt := rfl
@[simp] theorem respond_presc : (respond x d s).presc = s.presc := rfl
@[simp] theorem respond_rspValid : (respond x d s).rspValid = true := rfl
@[simp] theorem respond_freqMhz : (respond x d s).freqMhz = s.freqMhz := rfl
@[simp] theorem respond_pin : (respond x d s).pin = s.pin := rfl
@[simp] theorem respond_tickDiv : (respond x d s).tickDiv = s.tickDiv := rfl
@[simp] theorem respond_drv : (respond x d s).drv = s.drv := rfl
@[simp] theorem respond_ch : (respond x d s).ch = s.ch := rfl
@[simp] theorem respond_flen : (respond x d s).flen = s.flen := rfl
@[simp] theorem respond_result : (respond x d s).result = rspWord x d := rfl
@[simp] theorem respond_fb : (respond x d s).fb = s.fb := rfl
@[simp] theorem respond_txn : (respond x d s).txn = s.txn := rfl
@[simp] theorem respond_out : (respond x d s).out = s.out := rfl
@[simp] theorem respond_line : (respond x d s).line = s.line := rfl
@[simp] theorem respond_dly : (respond x d s).dly = s.dly := rfl
@[simp] theorem respond_params : (respond x d s).params = s.params := rfl
@[simp] theorem respond_hostInputs : (respond x d s).hostInputs = s.hostInputs := rfl
@[simp] theorem respond_cfgAnswers : (respond x d s).cfgAnswers = s.cfgAnswers := rfl
@[simp] theorem respond_cfgDraws : (respond x d s).cfgDraws = s.cfgDraws := rfl
@[simp] theorem respond_beginAnswers : (respond x d s).beginAnswers = s.beginAnswers := rfl
@[simp] theorem respond_beginDraws : (respond x d s).beginDraws = s.beginDraws := rfl
@[simp] theorem respond_waitAnswers : (respond x d s).waitAnswers = s.waitAnswers := rfl
@[simp] theorem respond_waitDraws : (respond x d s).waitDraws = s.waitDraws := rfl
@[simp] theorem respond_hwOutcome : (respond x d s).hwOutcome = s.hwOutcome := rfl
@[simp] theorem respond_inFade : (respond x d s).inFade = false := rfl

end

/-! ## raise -/

section
variable (e : Err) (s : State)

@[simp] theorem raise_color : (raise e s).color = s.color := rfl
@[simp] theorem raise_bri : (raise e s).bri = s.bri := rfl
@[simp] theorem raise_count : (raise e s).count = s.count := rfl
@[simp] theorem raise_scol : (raise e s).scol = s.scol := rfl
@[simp] theorem raise_pkt : (raise e s).pkt = s.pkt := rfl
@[simp] theorem raise_fc : (raise e s).fc = s.fc := rfl
@[simp] theorem raise_fch : (raise e s).fch = s.fch := rfl
@[simp] theorem raise_fstep : (raise e s).fstep = s.fstep := rfl
@[simp] theorem raise_ctrl : (raise e s).ctrl = .idle := rfl
@[simp] theorem raise_rdptr : (raise e s).rdptr = s.rdptr := rfl
@[simp] theorem raise_phase : (raise e s).phase = s.phase := rfl
@[simp] theorem raise_tickcnt : (raise e s).tickcnt = s.tickcnt := rfl
@[simp] theorem raise_presc : (raise e s).presc = s.presc := rfl
@[simp] theorem raise_rspValid : (raise e s).rspValid = true := rfl
@[simp] theorem raise_freqMhz : (raise e s).freqMhz = s.freqMhz := rfl
@[simp] theorem raise_pin : (raise e s).pin = s.pin := rfl
@[simp] theorem raise_tickDiv : (raise e s).tickDiv = s.tickDiv := rfl
@[simp] theorem raise_drv : (raise e s).drv = driverAfter s e := rfl
@[simp] theorem raise_ch : (raise e s).ch = .idle := rfl
@[simp] theorem raise_flen : (raise e s).flen = s.flen := rfl
@[simp] theorem raise_result : (raise e s).result = rspWord e.status e.detail := rfl
@[simp] theorem raise_fb : (raise e s).fb = s.fb := rfl
@[simp] theorem raise_txn : (raise e s).txn = none := rfl
@[simp] theorem raise_out : (raise e s).out = s.out := rfl
@[simp] theorem raise_line : (raise e s).line = s.line := rfl
@[simp] theorem raise_dly : (raise e s).dly = s.dly := rfl
@[simp] theorem raise_params : (raise e s).params = s.params := rfl
@[simp] theorem raise_hostInputs : (raise e s).hostInputs = s.hostInputs := rfl
@[simp] theorem raise_cfgAnswers : (raise e s).cfgAnswers = s.cfgAnswers := rfl
@[simp] theorem raise_cfgDraws : (raise e s).cfgDraws = s.cfgDraws := rfl
@[simp] theorem raise_beginAnswers : (raise e s).beginAnswers = s.beginAnswers := rfl
@[simp] theorem raise_beginDraws : (raise e s).beginDraws = s.beginDraws := rfl
@[simp] theorem raise_waitAnswers : (raise e s).waitAnswers = s.waitAnswers := rfl
@[simp] theorem raise_waitDraws : (raise e s).waitDraws = s.waitDraws := rfl
@[simp] theorem raise_hwOutcome : (raise e s).hwOutcome = s.hwOutcome := rfl
@[simp] theorem raise_inFade : (raise e s).inFade = false := rfl

end

/-! ## latchSend -/

section
variable (c : Color) (b : Byte) (n : BitVec 16) (s : State)

@[simp] theorem latchSend_color : (s.latchSend c b n).color = c := rfl
@[simp] theorem latchSend_bri : (s.latchSend c b n).bri = b := rfl
@[simp] theorem latchSend_count : (s.latchSend c b n).count = n := rfl
@[simp] theorem latchSend_scol : (s.latchSend c b n).scol = s.scol := rfl
@[simp] theorem latchSend_pkt : (s.latchSend c b n).pkt = s.pkt := rfl
@[simp] theorem latchSend_fc : (s.latchSend c b n).fc = s.fc := rfl
@[simp] theorem latchSend_fch : (s.latchSend c b n).fch = s.fch := rfl
@[simp] theorem latchSend_fstep : (s.latchSend c b n).fstep = s.fstep := rfl
@[simp] theorem latchSend_ctrl : (s.latchSend c b n).ctrl = s.ctrl := rfl
@[simp] theorem latchSend_rdptr : (s.latchSend c b n).rdptr = s.rdptr := rfl
@[simp] theorem latchSend_phase : (s.latchSend c b n).phase = s.phase := rfl
@[simp] theorem latchSend_tickcnt : (s.latchSend c b n).tickcnt = s.tickcnt := rfl
@[simp] theorem latchSend_presc : (s.latchSend c b n).presc = s.presc := rfl
@[simp] theorem latchSend_rspValid : (s.latchSend c b n).rspValid = s.rspValid := rfl
@[simp] theorem latchSend_freqMhz : (s.latchSend c b n).freqMhz = s.freqMhz := rfl
@[simp] theorem latchSend_pin : (s.latchSend c b n).pin = s.pin := rfl
@[simp] theorem latchSend_tickDiv : (s.latchSend c b n).tickDiv = s.tickDiv := rfl
@[simp] theorem latchSend_drv : (s.latchSend c b n).drv = s.drv := rfl
@[simp] theorem latchSend_ch : (s.latchSend c b n).ch = s.ch := rfl
@[simp] theorem latchSend_flen : (s.latchSend c b n).flen = s.flen := rfl
@[simp] theorem latchSend_result : (s.latchSend c b n).result = s.result := rfl
@[simp] theorem latchSend_fb : (s.latchSend c b n).fb = s.fb := rfl
@[simp] theorem latchSend_txn : (s.latchSend c b n).txn = s.txn := rfl
@[simp] theorem latchSend_out : (s.latchSend c b n).out = s.out := rfl
@[simp] theorem latchSend_line : (s.latchSend c b n).line = s.line := rfl
@[simp] theorem latchSend_dly : (s.latchSend c b n).dly = s.dly := rfl
@[simp] theorem latchSend_params : (s.latchSend c b n).params = s.params := rfl
@[simp] theorem latchSend_hostInputs : (s.latchSend c b n).hostInputs = s.hostInputs := rfl
@[simp] theorem latchSend_cfgAnswers : (s.latchSend c b n).cfgAnswers = s.cfgAnswers := rfl
@[simp] theorem latchSend_cfgDraws : (s.latchSend c b n).cfgDraws = s.cfgDraws := rfl
@[simp] theorem latchSend_beginAnswers : (s.latchSend c b n).beginAnswers = s.beginAnswers := rfl
@[simp] theorem latchSend_beginDraws : (s.latchSend c b n).beginDraws = s.beginDraws := rfl
@[simp] theorem latchSend_waitAnswers : (s.latchSend c b n).waitAnswers = s.waitAnswers := rfl
@[simp] theorem latchSend_waitDraws : (s.latchSend c b n).waitDraws = s.waitDraws := rfl
@[simp] theorem latchSend_hwOutcome : (s.latchSend c b n).hwOutcome = s.hwOutcome := rfl
@[simp] theorem latchSend_inFade : (s.latchSend c b n).inFade = s.inFade := rfl

end

/-! ## latchColor -/

section
variable (c : Color) (n : BitVec 16) (s : State)

@[simp] theorem latchColor_color : (s.latchColor c n).color = c := rfl
@[simp] theorem latchColor_bri : (s.latchColor c n).bri = s.bri := rfl
@[simp] theorem latchColor_count : (s.latchColor c n).count = n := rfl
@[simp] theorem latchColor_scol : (s.latchColor c n).scol = s.scol := rfl
@[simp] theorem latchColor_pkt : (s.latchColor c n).pkt = s.pkt := rfl
@[simp] theorem latchColor_fc : (s.latchColor c n).fc = s.fc := rfl
@[simp] theorem latchColor_fch : (s.latchColor c n).fch = s.fch := rfl
@[simp] theorem latchColor_fstep : (s.latchColor c n).fstep = s.fstep := rfl
@[simp] theorem latchColor_ctrl : (s.latchColor c n).ctrl = s.ctrl := rfl
@[simp] theorem latchColor_rdptr : (s.latchColor c n).rdptr = s.rdptr := rfl
@[simp] theorem latchColor_phase : (s.latchColor c n).phase = s.phase := rfl
@[simp] theorem latchColor_tickcnt : (s.latchColor c n).tickcnt = s.tickcnt := rfl
@[simp] theorem latchColor_presc : (s.latchColor c n).presc = s.presc := rfl
@[simp] theorem latchColor_rspValid : (s.latchColor c n).rspValid = s.rspValid := rfl
@[simp] theorem latchColor_freqMhz : (s.latchColor c n).freqMhz = s.freqMhz := rfl
@[simp] theorem latchColor_pin : (s.latchColor c n).pin = s.pin := rfl
@[simp] theorem latchColor_tickDiv : (s.latchColor c n).tickDiv = s.tickDiv := rfl
@[simp] theorem latchColor_drv : (s.latchColor c n).drv = s.drv := rfl
@[simp] theorem latchColor_ch : (s.latchColor c n).ch = s.ch := rfl
@[simp] theorem latchColor_flen : (s.latchColor c n).flen = s.flen := rfl
@[simp] theorem latchColor_result : (s.latchColor c n).result = s.result := rfl
@[simp] theorem latchColor_fb : (s.latchColor c n).fb = s.fb := rfl
@[simp] theorem latchColor_txn : (s.latchColor c n).txn = s.txn := rfl
@[simp] theorem latchColor_out : (s.latchColor c n).out = s.out := rfl
@[simp] theorem latchColor_line : (s.latchColor c n).line = s.line := rfl
@[simp] theorem latchColor_dly : (s.latchColor c n).dly = s.dly := rfl
@[simp] theorem latchColor_params : (s.latchColor c n).params = s.params := rfl
@[simp] theorem latchColor_hostInputs : (s.latchColor c n).hostInputs = s.hostInputs := rfl
@[simp] theorem latchColor_cfgAnswers : (s.latchColor c n).cfgAnswers = s.cfgAnswers := rfl
@[simp] theorem latchColor_cfgDraws : (s.latchColor c n).cfgDraws = s.cfgDraws := rfl
@[simp] theorem latchColor_beginAnswers : (s.latchColor c n).beginAnswers = s.beginAnswers := rfl
@[simp] theorem latchColor_beginDraws : (s.latchColor c n).beginDraws = s.beginDraws := rfl
@[simp] theorem latchColor_waitAnswers : (s.latchColor c n).waitAnswers = s.waitAnswers := rfl
@[simp] theorem latchColor_waitDraws : (s.latchColor c n).waitDraws = s.waitDraws := rfl
@[simp] theorem latchColor_hwOutcome : (s.latchColor c n).hwOutcome = s.hwOutcome := rfl
@[simp] theorem latchColor_inFade : (s.latchColor c n).inFade = s.inFade := rfl

end

/-! ## latchConstruct -/

section
variable (f : BitVec 16) (p : Byte) (s : State)

@[simp] theorem latchConstruct_color : (s.latchConstruct f p).color = s.color := rfl
@[simp] theorem latchConstruct_bri : (s.latchConstruct f p).bri = s.bri := rfl
@[simp] theorem latchConstruct_count : (s.latchConstruct f p).count = s.count := rfl
@[simp] theorem latchConstruct_scol : (s.latchConstruct f p).scol = s.scol := rfl
@[simp] theorem latchConstruct_pkt : (s.latchConstruct f p).pkt = s.pkt := rfl
@[simp] theorem latchConstruct_fc : (s.latchConstruct f p).fc = s.fc := rfl
@[simp] theorem latchConstruct_fch : (s.latchConstruct f p).fch = s.fch := rfl
@[simp] theorem latchConstruct_fstep : (s.latchConstruct f p).fstep = s.fstep := rfl
@[simp] theorem latchConstruct_ctrl : (s.latchConstruct f p).ctrl = s.ctrl := rfl
@[simp] theorem latchConstruct_rdptr : (s.latchConstruct f p).rdptr = s.rdptr := rfl
@[simp] theorem latchConstruct_phase : (s.latchConstruct f p).phase = s.phase := rfl
@[simp] theorem latchConstruct_tickcnt : (s.latchConstruct f p).tickcnt = s.tickcnt := rfl
@[simp] theorem latchConstruct_presc : (s.latchConstruct f p).presc = s.presc := rfl
@[simp] theorem latchConstruct_rspValid : (s.latchConstruct f p).rspValid = s.rspValid := rfl
@[simp] theorem latchConstruct_freqMhz : (s.latchConstruct f p).freqMhz = f := rfl
@[simp] theorem latchConstruct_pin : (s.latchConstruct f p).pin = p := rfl
@[simp] theorem latchConstruct_tickDiv : (s.latchConstruct f p).tickDiv = s.tickDiv := rfl
@[simp] theorem latchConstruct_drv : (s.latchConstruct f p).drv = s.drv := rfl
@[simp] theorem latchConstruct_ch : (s.latchConstruct f p).ch = s.ch := rfl
@[simp] theorem latchConstruct_flen : (s.latchConstruct f p).flen = s.flen := rfl
@[simp] theorem latchConstruct_result : (s.latchConstruct f p).result = s.result := rfl
@[simp] theorem latchConstruct_fb : (s.latchConstruct f p).fb = s.fb := rfl
@[simp] theorem latchConstruct_txn : (s.latchConstruct f p).txn = s.txn := rfl
@[simp] theorem latchConstruct_out : (s.latchConstruct f p).out = s.out := rfl
@[simp] theorem latchConstruct_line : (s.latchConstruct f p).line = s.line := rfl
@[simp] theorem latchConstruct_dly : (s.latchConstruct f p).dly = s.dly := rfl
@[simp] theorem latchConstruct_params : (s.latchConstruct f p).params = s.params := rfl
@[simp] theorem latchConstruct_hostInputs : (s.latchConstruct f p).hostInputs = s.hostInputs := rfl
@[simp] theorem latchConstruct_cfgAnswers : (s.latchConstruct f p).cfgAnswers = s.cfgAnswers := rfl
@[simp] theorem latchConstruct_cfgDraws : (s.latchConstruct f p).cfgDraws = s.cfgDraws := rfl
@[simp] theorem latchConstruct_beginAnswers : (s.latchConstruct f p).beginAnswers = s.beginAnswers := rfl
@[simp] theorem latchConstruct_beginDraws : (s.latchConstruct f p).beginDraws = s.beginDraws := rfl
@[simp] theorem latchConstruct_waitAnswers : (s.latchConstruct f p).waitAnswers = s.waitAnswers := rfl
@[simp] theorem latchConstruct_waitDraws : (s.latchConstruct f p).waitDraws = s.waitDraws := rfl
@[simp] theorem latchConstruct_hwOutcome : (s.latchConstruct f p).hwOutcome = s.hwOutcome := rfl
@[simp] theorem latchConstruct_inFade : (s.latchConstruct f p).inFade = s.inFade := rfl

end

/-! ## cfgAsked -/

section
variable (s : State)

@[simp] theorem cfgAsked_color : s.cfgAsked.color = s.color := rfl
@[simp] theorem cfgAsked_bri : s.cfgAsked.bri = s.bri := rfl
@[simp] theorem cfgAsked_count : s.cfgAsked.count = s.count := rfl
@[simp] theorem cfgAsked_scol : s.cfgAsked.scol = s.scol := rfl
@[simp] theorem cfgAsked_pkt : s.cfgAsked.pkt = s.pkt := rfl
@[simp] theorem cfgAsked_fc : s.cfgAsked.fc = s.fc := rfl
@[simp] theorem cfgAsked_fch : s.cfgAsked.fch = s.fch := rfl
@[simp] theorem cfgAsked_fstep : s.cfgAsked.fstep = s.fstep := rfl
@[simp] theorem cfgAsked_ctrl : s.cfgAsked.ctrl = s.ctrl := rfl
@[simp] theorem cfgAsked_rdptr : s.cfgAsked.rdptr = s.rdptr := rfl
@[simp] theorem cfgAsked_phase : s.cfgAsked.phase = s.phase := rfl
@[simp] theorem cfgAsked_tickcnt : s.cfgAsked.tickcnt = s.tickcnt := rfl
@[simp] theorem cfgAsked_presc : s.cfgAsked.presc = s.presc := rfl
@[simp] theorem cfgAsked_rspValid : s.cfgAsked.rspValid = s.rspValid := rfl
@[simp] theorem cfgAsked_freqMhz : s.cfgAsked.freqMhz = s.freqMhz := rfl
@[simp] theorem cfgAsked_pin : s.cfgAsked.pin = s.pin := rfl
@[simp] theorem cfgAsked_tickDiv : s.cfgAsked.tickDiv = s.tickDiv := rfl
@[simp] theorem cfgAsked_drv : s.cfgAsked.drv = s.drv := rfl
@[simp] theorem cfgAsked_ch : s.cfgAsked.ch = s.ch := rfl
@[simp] theorem cfgAsked_flen : s.cfgAsked.flen = s.flen := rfl
@[simp] theorem cfgAsked_result : s.cfgAsked.result = s.result := rfl
@[simp] theorem cfgAsked_fb : s.cfgAsked.fb = s.fb := rfl
@[simp] theorem cfgAsked_txn : s.cfgAsked.txn = s.txn := rfl
@[simp] theorem cfgAsked_out : s.cfgAsked.out = s.out := rfl
@[simp] theorem cfgAsked_line : s.cfgAsked.line = s.line := rfl
@[simp] theorem cfgAsked_dly : s.cfgAsked.dly = s.dly := rfl
@[simp] theorem cfgAsked_params : s.cfgAsked.params = s.params := rfl
@[simp] theorem cfgAsked_hostInputs : s.cfgAsked.hostInputs = s.hostInputs := rfl
@[simp] theorem cfgAsked_cfgAnswers : s.cfgAsked.cfgAnswers = s.cfgAnswers.tail := rfl
@[simp] theorem cfgAsked_cfgDraws : s.cfgAsked.cfgDraws = s.cfgDraws + 1 := rfl
@[simp] theorem cfgAsked_beginAnswers : s.cfgAsked.beginAnswers = s.beginAnswers := rfl
@[simp] theorem cfgAsked_beginDraws : s.cfgAsked.beginDraws = s.beginDraws := rfl
@[simp] theorem cfgAsked_waitAnswers : s.cfgAsked.waitAnswers = s.waitAnswers := rfl
@[simp] theorem cfgAsked_waitDraws : s.cfgAsked.waitDraws = s.waitDraws := rfl
@[simp] theorem cfgAsked_hwOutcome : s.cfgAsked.hwOutcome = s.hwOutcome := rfl
@[simp] theorem cfgAsked_inFade : s.cfgAsked.inFade = s.inFade := rfl

end

/-! ## beginAsked -/

section
variable (s : State)

@[simp] theorem beginAsked_color : s.beginAsked.color = s.color := rfl
@[simp] theorem beginAsked_bri : s.beginAsked.bri = s.bri := rfl
@[simp] theorem beginAsked_count : s.beginAsked.count = s.count := rfl
@[simp] theorem beginAsked_scol : s.beginAsked.scol = s.scol := rfl
@[simp] theorem beginAsked_pkt : s.beginAsked.pkt = s.pkt := rfl
@[simp] theorem beginAsked_fc : s.beginAsked.fc = s.fc := rfl
@[simp] theorem beginAsked_fch : s.beginAsked.fch = s.fch := rfl
@[simp] theorem beginAsked_fstep : s.beginAsked.fstep = s.fstep := rfl
@[simp] theorem beginAsked_ctrl : s.beginAsked.ctrl = s.ctrl := rfl
@[simp] theorem beginAsked_rdptr : s.beginAsked.rdptr = s.rdptr := rfl
@[simp] theorem beginAsked_phase : s.beginAsked.phase = s.phase := rfl
@[simp] theorem beginAsked_tickcnt : s.beginAsked.tickcnt = s.tickcnt := rfl
@[simp] theorem beginAsked_presc : s.beginAsked.presc = s.presc := rfl
@[simp] theorem beginAsked_rspValid : s.beginAsked.rspValid = s.rspValid := rfl
@[simp] theorem beginAsked_freqMhz : s.beginAsked.freqMhz = s.freqMhz := rfl
@[simp] theorem beginAsked_pin : s.beginAsked.pin = s.pin := rfl
@[simp] theorem beginAsked_tickDiv : s.beginAsked.tickDiv = s.tickDiv := rfl
@[simp] theorem beginAsked_drv : s.beginAsked.drv = s.drv := rfl
@[simp] theorem beginAsked_ch : s.beginAsked.ch = s.ch := rfl
@[simp] theorem beginAsked_flen : s.beginAsked.flen = s.flen := rfl
@[simp] theorem beginAsked_result : s.beginAsked.result = s.result := rfl
@[simp] theorem beginAsked_fb : s.beginAsked.fb = s.fb := rfl
@[simp] theorem beginAsked_txn : s.beginAsked.txn = s.txn := rfl
@[simp] theorem beginAsked_out : s.beginAsked.out = s.out := rfl
@[simp] theorem beginAsked_line : s.beginAsked.line = s.line := rfl
@[simp] theorem beginAsked_dly : s.beginAsked.dly = s.dly := rfl
@[simp] theorem beginAsked_params : s.beginAsked.params = s.params := rfl
@[simp] theorem beginAsked_hostInputs : s.beginAsked.hostInputs = s.hostInputs := rfl
@[simp] theorem beginAsked_cfgAnswers : s.beginAsked.cfgAnswers = s.cfgAnswers := rfl
@[simp] theorem beginAsked_cfgDraws : s.beginAsked.cfgDraws = s.cfgDraws := rfl
@[simp] theorem beginAsked_beginAnswers : s.beginAsked.beginAnswers = s.beginAnswers.tail := rfl
@[simp] theorem beginAsked_beginDraws : s.beginAsked.beginDraws = s.beginDraws + 1 := rfl
@[simp] theorem beginAsked_waitAnswers : s.beginAsked.waitAnswers = s.waitAnswers := rfl
@[simp] theorem beginAsked_waitDraws : s.beginAsked.waitDraws = s.waitDraws := rfl
@[simp] theorem beginAsked_hwOutcome : s.beginAsked.hwOutcome = s.hwOutcome := rfl
@[simp] theorem beginAsked_inFade : s.beginAsked.inFade = s.inFade := rfl

end

/-! ## waitAsked -/

section
variable (s : State)

@[simp] theorem waitAsked_color : s.waitAsked.color = s.color := rfl
@[simp] theorem waitAsked_bri : s.waitAsked.bri = s.bri := rfl
@[simp] theorem waitAsked_count : s.waitAsked.count = s.count := rfl
@[simp] theorem waitAsked_scol : s.waitAsked.scol = s.scol := rfl
@[simp] theorem waitAsked_pkt : s.waitAsked.pkt = s.pkt := rfl
@[simp] theorem waitAsked_fc : s.waitAsked.fc = s.fc := rfl
@[simp] theorem waitAsked_fch : s.waitAsked.fch = s.fch := rfl
@[simp] theorem waitAsked_fstep : s.waitAsked.fstep = s.fstep := rfl
@[simp] theorem waitAsked_ctrl : s.waitAsked.ctrl = s.ctrl := rfl
@[simp] theorem waitAsked_rdptr : s.waitAsked.rdptr = s.rdptr := rfl
@[simp] theorem waitAsked_phase : s.waitAsked.phase = s.phase := rfl
@[simp] theorem waitAsked_tickcnt : s.waitAsked.tickcnt = s.tickcnt := rfl
@[simp] theorem waitAsked_presc : s.waitAsked.presc = s.presc := rfl
@[simp] theorem waitAsked_rspValid : s.waitAsked.rspValid = s.rspValid := rfl
@[simp] theorem waitAsked_freqMhz : s.waitAsked.freqMhz = s.freqMhz := rfl
@[simp] theorem waitAsked_pin : s.waitAsked.pin = s.pin := rfl
@[simp] theorem waitAsked_tickDiv : s.waitAsked.tickDiv = s.tickDiv := rfl
@[simp] theorem waitAsked_drv : s.waitAsked.drv = s.drv := rfl
@[simp] theorem waitAsked_ch : s.waitAsked.ch = s.ch := rfl
@[simp] theorem waitAsked_flen : s.waitAsked.flen = s.flen := rfl
@[simp] theorem waitAsked_result : s.waitAsked.result = s.result := rfl
@[simp] theorem waitAsked_fb : s.waitAsked.fb = s.fb := rfl
@[simp] theorem waitAsked_txn : s.waitAsked.txn = s.txn := rfl
@[simp] theorem waitAsked_out : s.waitAsked.out = s.out := rfl
@[simp] theorem waitAsked_line : s.waitAsked.line = s.line := rfl
@[simp] theorem waitAsked_dly : s.waitAsked.dly = s.dly := rfl
@[simp] theorem waitAsked_params : s.waitAsked.params = s.params := rfl
@[simp] theorem waitAsked_hostInputs : s.waitAsked.hostInputs = s.hostInputs := rfl
@[simp] theorem waitAsked_cfgAnswers : s.waitAsked.cfgAnswers = s.cfgAnswers := rfl
@[simp] theorem waitAsked_cfgDraws : s.waitAsked.cfgDraws = s.cfgDraws := rfl
@[simp] theorem waitAsked_beginAnswers : s.waitAsked.beginAnswers = s.beginAnswers := rfl
@[simp] theorem waitAsked_beginDraws : s.waitAsked.beginDraws = s.beginDraws := rfl
@[simp] theorem waitAsked_waitAnswers : s.waitAsked.waitAnswers = s.waitAnswers.tail := rfl
@[simp] theorem waitAsked_waitDraws : s.waitAsked.waitDraws = s.waitDraws + 1 := rfl
@[simp] theorem waitAsked_hwOutcome : s.waitAsked.hwOutcome = s.waitAt 0 := rfl
@[simp] theorem waitAsked_inFade : s.waitAsked.inFade = s.inFade := rfl

end

/-! ## buildPacket -/

section
variable (s : State)

@[simp] theorem buildPacket_color : (buildPacket s).color = s.color := rfl
@[simp] theorem buildPacket_bri : (buildPacket s).bri = s.bri := rfl
@[simp] theorem buildPacket_count : (buildPacket s).count = s.count := rfl
@[simp] theorem buildPacket_scol : (buildPacket s).scol = s.scol := rfl
@[simp] theorem buildPacket_pkt : (buildPacket s).pkt = packet s.scol := rfl
@[simp] theorem buildPacket_fc : (buildPacket s).fc = s.fc := rfl
@[simp] theorem buildPacket_fch : (buildPacket s).fch = s.fch := rfl
@[simp] theorem buildPacket_fstep : (buildPacket s).fstep = s.fstep := rfl
@[simp] theorem buildPacket_ctrl : (buildPacket s).ctrl = s.ctrl := rfl
@[simp] theorem buildPacket_rdptr : (buildPacket s).rdptr = s.rdptr := rfl
@[simp] theorem buildPacket_phase : (buildPacket s).phase = s.phase := rfl
@[simp] theorem buildPacket_tickcnt : (buildPacket s).tickcnt = s.tickcnt := rfl
@[simp] theorem buildPacket_presc : (buildPacket s).presc = s.presc := rfl
@[simp] theorem buildPacket_rspValid : (buildPacket s).rspValid = s.rspValid := rfl
@[simp] theorem buildPacket_freqMhz : (buildPacket s).freqMhz = s.freqMhz := rfl
@[simp] theorem buildPacket_pin : (buildPacket s).pin = s.pin := rfl
@[simp] theorem buildPacket_tickDiv : (buildPacket s).tickDiv = s.tickDiv := rfl
@[simp] theorem buildPacket_drv : (buildPacket s).drv = s.drv := rfl
@[simp] theorem buildPacket_ch : (buildPacket s).ch = s.ch := rfl
@[simp] theorem buildPacket_flen : (buildPacket s).flen = s.flen := rfl
@[simp] theorem buildPacket_result : (buildPacket s).result = s.result := rfl
@[simp] theorem buildPacket_fb : (buildPacket s).fb = s.fb := rfl
@[simp] theorem buildPacket_txn : (buildPacket s).txn = s.txn := rfl
@[simp] theorem buildPacket_out : (buildPacket s).out = s.out := rfl
@[simp] theorem buildPacket_line : (buildPacket s).line = s.line := rfl
@[simp] theorem buildPacket_dly : (buildPacket s).dly = s.dly := rfl
@[simp] theorem buildPacket_params : (buildPacket s).params = s.params := rfl
@[simp] theorem buildPacket_hostInputs : (buildPacket s).hostInputs = s.hostInputs := rfl
@[simp] theorem buildPacket_cfgAnswers : (buildPacket s).cfgAnswers = s.cfgAnswers := rfl
@[simp] theorem buildPacket_cfgDraws : (buildPacket s).cfgDraws = s.cfgDraws := rfl
@[simp] theorem buildPacket_beginAnswers : (buildPacket s).beginAnswers = s.beginAnswers := rfl
@[simp] theorem buildPacket_beginDraws : (buildPacket s).beginDraws = s.beginDraws := rfl
@[simp] theorem buildPacket_waitAnswers : (buildPacket s).waitAnswers = s.waitAnswers := rfl
@[simp] theorem buildPacket_waitDraws : (buildPacket s).waitDraws = s.waitDraws := rfl
@[simp] theorem buildPacket_hwOutcome : (buildPacket s).hwOutcome = s.hwOutcome := rfl
@[simp] theorem buildPacket_inFade : (buildPacket s).inFade = s.inFade := rfl

end

/-! ## runHalf -/

section
variable (ph : Phase) (l : Level) (m k : Nat) (s : State)

@[simp] theorem runHalf_color : (runHalf ph l m k s).color = s.color := rfl
@[simp] theorem runHalf_bri : (runHalf ph l m k s).bri = s.bri := rfl
@[simp] theorem runHalf_count : (runHalf ph l m k s).count = s.count := rfl
@[simp] theorem runHalf_scol : (runHalf ph l m k s).scol = s.scol := rfl
@[simp] theorem runHalf_pkt : (runHalf ph l m k s).pkt = s.pkt := rfl
@[simp] theorem runHalf_fc : (runHalf ph l m k s).fc = s.fc := rfl
@[simp] theorem runHalf_fch : (runHalf ph l m k s).fch = s.fch := rfl
@[simp] theorem runHalf_fstep : (runHalf ph l m k s).fstep = s.fstep := rfl
@[simp] theorem runHalf_ctrl : (runHalf ph l m k s).ctrl = s.ctrl := rfl
@[simp] theorem runHalf_rdptr : (runHalf ph l m k s).rdptr = s.rdptr := rfl
@[simp] theorem runHalf_phase : (runHalf ph l m k s).phase = ph := rfl
@[simp] theorem runHalf_tickcnt : (runHalf ph l m k s).tickcnt = BitVec.ofNat 15 (m - k) := rfl
@[simp] theorem runHalf_presc : (runHalf ph l m k s).presc = if m = k then 0 else s.tickDiv := rfl
@[simp] theorem runHalf_rspValid : (runHalf ph l m k s).rspValid = s.rspValid := rfl
@[simp] theorem runHalf_freqMhz : (runHalf ph l m k s).freqMhz = s.freqMhz := rfl
@[simp] theorem runHalf_pin : (runHalf ph l m k s).pin = s.pin := rfl
@[simp] theorem runHalf_tickDiv : (runHalf ph l m k s).tickDiv = s.tickDiv := rfl
@[simp] theorem runHalf_drv : (runHalf ph l m k s).drv = s.drv := rfl
@[simp] theorem runHalf_ch : (runHalf ph l m k s).ch = s.ch := rfl
@[simp] theorem runHalf_flen : (runHalf ph l m k s).flen = s.flen := rfl
@[simp] theorem runHalf_result : (runHalf ph l m k s).result = s.result := rfl
@[simp] theorem runHalf_fb : (runHalf ph l m k s).fb = s.fb := rfl
@[simp] theorem runHalf_txn : (runHalf ph l m k s).txn = s.txn := rfl
@[simp] theorem runHalf_out : (runHalf ph l m k s).out = s.out ++ [.seg l k] := rfl
@[simp] theorem runHalf_line : (runHalf ph l m k s).line = .driven l := rfl
@[simp] theorem runHalf_dly : (runHalf ph l m k s).dly = s.dly := rfl
@[simp] theorem runHalf_params : (runHalf ph l m k s).params = s.params := rfl
@[simp] theorem runHalf_hostInputs : (runHalf ph l m k s).hostInputs = s.hostInputs := rfl
@[simp] theorem runHalf_cfgAnswers : (runHalf ph l m k s).cfgAnswers = s.cfgAnswers := rfl
@[simp] theorem runHalf_cfgDraws : (runHalf ph l m k s).cfgDraws = s.cfgDraws := rfl
@[simp] theorem runHalf_beginAnswers : (runHalf ph l m k s).beginAnswers = s.beginAnswers := rfl
@[simp] theorem runHalf_beginDraws : (runHalf ph l m k s).beginDraws = s.beginDraws := rfl
@[simp] theorem runHalf_waitAnswers : (runHalf ph l m k s).waitAnswers = s.waitAnswers := rfl
@[simp] theorem runHalf_waitDraws : (runHalf ph l m k s).waitDraws = s.waitDraws := rfl
@[simp] theorem runHalf_hwOutcome : (runHalf ph l m k s).hwOutcome = spend k s.hwOutcome := rfl
@[simp] theorem runHalf_inFade : (runHalf ph l m k s).inFade = s.inFade := rfl

end

/-! ## endTx -/

section
variable (s : State)

@[simp] theorem endTx_color : (endTx s).color = s.color := rfl
@[simp] theorem endTx_bri : (endTx s).bri = s.bri := rfl
@[simp] theorem endTx_count : (endTx s).count = s.count := rfl
@[simp] theorem endTx_scol : (endTx s).scol = s.scol := rfl
@[simp] theorem endTx_pkt : (endTx s).pkt = s.pkt := rfl
@[simp] theorem endTx_fc : (endTx s).fc = s.fc := rfl
@[simp] theorem endTx_fch : (endTx s).fch = s.fch := rfl
@[simp] theorem endTx_fstep : (endTx s).fstep = s.fstep := rfl
@[simp] theorem endTx_ctrl : (endTx s).ctrl = s.ctrl := rfl
@[simp] theorem endTx_rdptr : (endTx s).rdptr = s.rdptr := rfl
@[simp] theorem endTx_phase : (endTx s).phase = s.phase := rfl
@[simp] theorem endTx_tickcnt : (endTx s).tickcnt = s.tickcnt := rfl
@[simp] theorem endTx_presc : (endTx s).presc = s.presc := rfl
@[simp] theorem endTx_rspValid : (endTx s).rspValid = s.rspValid := rfl
@[simp] theorem endTx_freqMhz : (endTx s).freqMhz = s.freqMhz := rfl
@[simp] theorem endTx_pin : (endTx s).pin = s.pin := rfl
@[simp] theorem endTx_tickDiv : (endTx s).tickDiv = s.tickDiv := rfl
@[simp] theorem endTx_drv : (endTx s).drv = s.drv := rfl
@[simp] theorem endTx_ch : (endTx s).ch = .idle := rfl
@[simp] theorem endTx_flen : (endTx s).flen = s.flen := rfl
@[simp] theorem endTx_result : (endTx s).result = s.result := rfl
@[simp] theorem endTx_fb : (endTx s).fb = s.fb := rfl
@[simp] theorem endTx_txn : (endTx s).txn = none := rfl
@[simp] theorem endTx_out : (endTx s).out = s.out := rfl
@[simp] theorem endTx_line : (endTx s).line = .driven s.params.idleAfterTx := rfl
@[simp] theorem endTx_dly : (endTx s).dly = s.dly := rfl
@[simp] theorem endTx_params : (endTx s).params = s.params := rfl
@[simp] theorem endTx_hostInputs : (endTx s).hostInputs = s.hostInputs := rfl
@[simp] theorem endTx_cfgAnswers : (endTx s).cfgAnswers = s.cfgAnswers := rfl
@[simp] theorem endTx_cfgDraws : (endTx s).cfgDraws = s.cfgDraws := rfl
@[simp] theorem endTx_beginAnswers : (endTx s).beginAnswers = s.beginAnswers := rfl
@[simp] theorem endTx_beginDraws : (endTx s).beginDraws = s.beginDraws := rfl
@[simp] theorem endTx_waitAnswers : (endTx s).waitAnswers = s.waitAnswers := rfl
@[simp] theorem endTx_waitDraws : (endTx s).waitDraws = s.waitDraws := rfl
@[simp] theorem endTx_hwOutcome : (endTx s).hwOutcome = s.hwOutcome := rfl
@[simp] theorem endTx_inFade : (endTx s).inFade = s.inFade := rfl

end

/-! ## enterDelay -/

section
variable (s : State)

@[simp] theorem enterDelay_color : (enterDelay s).color = s.color := rfl
@[simp] theorem enterDelay_bri : (enterDelay s).bri = s.bri := rfl
@[simp] theorem enterDelay_count : (enterDelay s).count = s.count := rfl
@[simp] theorem enterDelay_scol : (enterDelay s).scol = s.scol := rfl
@[simp] theorem enterDelay_pkt : (enterDelay s).pkt = s.pkt := rfl
@[simp] theorem enterDelay_fc : (enterDelay s).fc = s.fc := rfl
@[simp] theorem enterDelay_fch : (enterDelay s).fch = s.fch := rfl
@[simp] theorem enterDelay_fstep : (enterDelay s).fstep = s.fstep := rfl
@[simp] theorem enterDelay_ctrl : (enterDelay s).ctrl = .delay := rfl
@[simp] theorem enterDelay_rdptr : (enterDelay s).rdptr = s.rdptr := rfl
@[simp] theorem enterDelay_phase : (enterDelay s).phase = s.phase := rfl
@[simp] theorem enterDelay_tickcnt : (enterDelay s).tickcnt = s.tickcnt := rfl
@[simp] theorem enterDelay_presc : (enterDelay s).presc = s.presc := rfl
@[simp] theorem enterDelay_rspValid : (enterDelay s).rspValid = s.rspValid := rfl
@[simp] theorem enterDelay_freqMhz : (enterDelay s).freqMhz = s.freqMhz := rfl
@[simp] theorem enterDelay_pin : (enterDelay s).pin = s.pin := rfl
@[simp] theorem enterDelay_tickDiv : (enterDelay s).tickDiv = s.tickDiv := rfl
@[simp] theorem enterDelay_drv : (enterDelay s).drv = s.drv := rfl
@[simp] theorem enterDelay_ch : (enterDelay s).ch = s.ch := rfl
@[simp] theorem enterDelay_flen : (enterDelay s).flen = s.flen := rfl
@[simp] theorem enterDelay_result : (enterDelay s).result = s.result := rfl
@[simp] theorem enterDelay_fb : (enterDelay s).fb = s.fb := rfl
@[simp] theorem enterDelay_txn : (enterDelay s).txn = s.txn := rfl
@[simp] theorem enterDelay_out : (enterDelay s).out = s.out := rfl
@[simp] theorem enterDelay_line : (enterDelay s).line = s.line := rfl
@[simp] theorem enterDelay_dly : (enterDelay s).dly = FADE_DELAY_MS := rfl
@[simp] theorem enterDelay_params : (enterDelay s).params = s.params := rfl
@[simp] theorem enterDelay_hostInputs : (enterDelay s).hostInputs = s.hostInputs := rfl
@[simp] theorem enterDelay_cfgAnswers : (enterDelay s).cfgAnswers = s.cfgAnswers := rfl
@[simp] theorem enterDelay_cfgDraws : (enterDelay s).cfgDraws = s.cfgDraws := rfl
@[simp] theorem enterDelay_beginAnswers : (enterDelay s).beginAnswers = s.beginAnswers := rfl
@[simp] theorem enterDelay_beginDraws : (enterDelay s).beginDraws = s.beginDraws := rfl
@[simp] theorem enterDelay_waitAnswers : (enterDelay s).waitAnswers = s.waitAnswers := rfl
@[simp] theorem enterDelay_waitDraws : (enterDelay s).waitDraws = s.waitDraws := rfl
@[simp] theorem enterDelay_hwOutcome : (enterDelay s).hwOutcome = s.hwOutcome := rfl
@[simp] theorem enterDelay_inFade : (enterDelay s).inFade = s.inFade := rfl

end

/-! ## runDelay -/

section
variable (s : State)

@[simp] theorem runDelay_color : (runDelay s).color = s.color := rfl
@[simp] theorem runDelay_bri : (runDelay s).bri = s.bri := rfl
@[simp] theorem runDelay_count : (runDelay s).count = s.count := rfl
@[simp] theorem runDelay_scol : (runDelay s).scol = s.scol := rfl
@[simp] theorem runDelay_pkt : (runDelay s).pkt = s.pkt := rfl
@[simp] theorem runDelay_fc : (runDelay s).fc = s.fc := rfl
@[simp] theorem runDelay_fch : (runDelay s).fch = s.fch := rfl
@[simp] theorem runDelay_fstep : (runDelay s).fstep = s.fstep := rfl
@[simp] theorem runDelay_ctrl : (runDelay s).ctrl = s.ctrl := rfl
@[simp] theorem runDelay_rdptr : (runDelay s).rdptr = s.rdptr := rfl
@[simp] theorem runDelay_phase : (runDelay s).phase = s.phase := rfl
@[simp] theorem runDelay_tickcnt : (runDelay s).tickcnt = s.tickcnt := rfl
@[simp] theorem runDelay_presc : (runDelay s).presc = s.presc := rfl
@[simp] theorem runDelay_rspValid : (runDelay s).rspValid = s.rspValid := rfl
@[simp] theorem runDelay_freqMhz : (runDelay s).freqMhz = s.freqMhz := rfl
@[simp] theorem runDelay_pin : (runDelay s).pin = s.pin := rfl
@[simp] theorem runDelay_tickDiv : (runDelay s).tickDiv = s.tickDiv := rfl
@[simp] theorem runDelay_drv : (runDelay s).drv = s.drv := rfl
@[simp] theorem runDelay_ch : (runDelay s).ch = s.ch := rfl
@[simp] theorem runDelay_flen : (runDelay s).flen = s.flen := rfl
@[simp] theorem runDelay_result : (runDelay s).result = s.result := rfl
@[simp] theorem runDelay_fb : (runDelay s).fb = s.fb := rfl
@[simp] theorem runDelay_txn : (runDelay s).txn = s.txn := rfl
@[simp] theorem runDelay_out : (runDelay s).out = s.out ++ [.delay s.dly] := rfl
@[simp] theorem runDelay_line : (runDelay s).line = s.line := rfl
@[simp] theorem runDelay_dly : (runDelay s).dly = 0 := rfl
@[simp] theorem runDelay_params : (runDelay s).params = s.params := rfl
@[simp] theorem runDelay_hostInputs : (runDelay s).hostInputs = s.hostInputs := rfl
@[simp] theorem runDelay_cfgAnswers : (runDelay s).cfgAnswers = s.cfgAnswers := rfl
@[simp] theorem runDelay_cfgDraws : (runDelay s).cfgDraws = s.cfgDraws := rfl
@[simp] theorem runDelay_beginAnswers : (runDelay s).beginAnswers = s.beginAnswers := rfl
@[simp] theorem runDelay_beginDraws : (runDelay s).beginDraws = s.beginDraws := rfl
@[simp] theorem runDelay_waitAnswers : (runDelay s).waitAnswers = s.waitAnswers := rfl
@[simp] theorem runDelay_waitDraws : (runDelay s).waitDraws = s.waitDraws := rfl
@[simp] theorem runDelay_hwOutcome : (runDelay s).hwOutcome = s.hwOutcome := rfl
@[simp] theorem runDelay_inFade : (runDelay s).inFade = s.inFade := rfl

end

/-! ## fadePaint -/

section
variable (c : FadeChannel) (k : BitVec 9) (s : State)

@[simp] theorem fadePaint_color : (fadePaint c k s).color = s.color := rfl
@[simp] theorem fadePaint_bri : (fadePaint c k s).bri = s.bri := rfl
@[simp] theorem fadePaint_count : (fadePaint c k s).count = s.count := rfl
@[simp] theorem fadePaint_scol : (fadePaint c k s).scol = (fadePaint c k s).fc := rfl
@[simp] theorem fadePaint_pkt : (fadePaint c k s).pkt = s.pkt := rfl
@[simp] theorem fadePaint_fch : (fadePaint c k s).fch = c := rfl
@[simp] theorem fadePaint_fstep : (fadePaint c k s).fstep = k := rfl
@[simp] theorem fadePaint_ctrl : (fadePaint c k s).ctrl = s.ctrl := rfl
@[simp] theorem fadePaint_rdptr : (fadePaint c k s).rdptr = s.rdptr := rfl
@[simp] theorem fadePaint_phase : (fadePaint c k s).phase = s.phase := rfl
@[simp] theorem fadePaint_tickcnt : (fadePaint c k s).tickcnt = s.tickcnt := rfl
@[simp] theorem fadePaint_presc : (fadePaint c k s).presc = s.presc := rfl
@[simp] theorem fadePaint_rspValid : (fadePaint c k s).rspValid = s.rspValid := rfl
@[simp] theorem fadePaint_freqMhz : (fadePaint c k s).freqMhz = s.freqMhz := rfl
@[simp] theorem fadePaint_pin : (fadePaint c k s).pin = s.pin := rfl
@[simp] theorem fadePaint_tickDiv : (fadePaint c k s).tickDiv = s.tickDiv := rfl
@[simp] theorem fadePaint_drv : (fadePaint c k s).drv = s.drv := rfl
@[simp] theorem fadePaint_ch : (fadePaint c k s).ch = s.ch := rfl
@[simp] theorem fadePaint_flen : (fadePaint c k s).flen = s.flen := rfl
@[simp] theorem fadePaint_result : (fadePaint c k s).result = s.result := rfl
@[simp] theorem fadePaint_fb : (fadePaint c k s).fb = s.fb := rfl
@[simp] theorem fadePaint_txn : (fadePaint c k s).txn = s.txn := rfl
@[simp] theorem fadePaint_out : (fadePaint c k s).out = s.out := rfl
@[simp] theorem fadePaint_line : (fadePaint c k s).line = s.line := rfl
@[simp] theorem fadePaint_dly : (fadePaint c k s).dly = s.dly := rfl
@[simp] theorem fadePaint_params : (fadePaint c k s).params = s.params := rfl
@[simp] theorem fadePaint_hostInputs : (fadePaint c k s).hostInputs = s.hostInputs := rfl
@[simp] theorem fadePaint_cfgAnswers : (fadePaint c k s).cfgAnswers = s.cfgAnswers := rfl
@[simp] theorem fadePaint_cfgDraws : (fadePaint c k s).cfgDraws = s.cfgDraws := rfl
@[simp] theorem fadePaint_beginAnswers : (fadePaint c k s).beginAnswers = s.beginAnswers := rfl
@[simp] theorem fadePaint_beginDraws : (fadePaint c k s).beginDraws = s.beginDraws := rfl
@[simp] theorem fadePaint_waitAnswers : (fadePaint c k s).waitAnswers = s.waitAnswers := rfl
@[simp] theorem fadePaint_waitDraws : (fadePaint c k s).waitDraws = s.waitDraws := rfl
@[simp] theorem fadePaint_hwOutcome : (fadePaint c k s).hwOutcome = s.hwOutcome := rfl
@[simp] theorem fadePaint_inFade : (fadePaint c k s).inFade = s.inFade := rfl

end

/-! ## enterBuild -/

section
variable (f : Bool) (s : State)

@[simp] theorem enterBuild_color : (enterBuild f s).color = s.color := rfl
@[simp] theorem enterBuild_bri : (enterBuild f s).bri = s.bri := rfl
@[simp] theorem enterBuild_count : (enterBuild f s).count = s.count := rfl
@[simp] theorem enterBuild_scol : (enterBuild f s).scol = s.scol := rfl
@[simp] theorem enterBuild_pkt : (enterBuild f s).pkt = s.pkt := rfl
@[simp] theorem enterBuild_fc : (enterBuild f s).fc = s.fc := rfl
@[simp] theorem enterBuild_fch : (enterBuild f s).fch = s.fch := rfl
@[simp] theorem enterBuild_fstep : (enterBuild f s).fstep = s.fstep := rfl
@[simp] theorem enterBuild_ctrl : (enterBuild f s).ctrl = .build := rfl
@[simp] theorem enterBuild_rdptr : (enterBuild f s).rdptr = s.rdptr := rfl
@[simp] theorem enterBuild_phase : (enterBuild f s).phase = s.phase := rfl
@[simp] theorem enterBuild_tickcnt : (enterBuild f s).tickcnt = s.tickcnt := rfl
@[simp] theorem enterBuild_presc : (enterBuild f s).presc = s.presc := rfl
@[simp] theorem enterBuild_rspValid : (enterBuild f s).rspValid = s.rspValid := rfl
@[simp] theorem enterBuild_freqMhz : (enterBuild f s).freqMhz = s.freqMhz := rfl
@[simp] theorem enterBuild_pin : (enterBuild f s).pin = s.pin := rfl
@[simp] theorem enterBuild_tickDiv : (enterBuild f s).tickDiv = s.tickDiv := rfl
@[simp] theorem enterBuild_drv : (enterBuild f s).drv = s.drv := rfl
@[simp] theorem enterBuild_ch : (enterBuild f s).ch = s.ch := rfl
@[simp] theorem enterBuild_flen : (enterBuild f s).flen = s.flen := rfl
@[simp] theorem enterBuild_result : (enterBuild f s).result = s.result := rfl
@[simp] theorem enterBuild_fb : (enterBuild f s).fb = s.fb := rfl
@[simp] theorem enterBuild_txn : (enterBuild f s).txn = s.txn := rfl
@[simp] theorem enterBuild_out : (enterBuild f s).out = s.out := rfl
@[simp] theorem enterBuild_line : (enterBuild f s).line = s.line := rfl
@[simp] theorem enterBuild_dly : (enterBuild f s).dly = s.dly := rfl
@[simp] theorem enterBuild_params : (enterBuild f s).params = s.params := rfl
@[simp] theorem enterBuild_hostInputs : (enterBuild f s).hostInputs = s.hostInputs := rfl
@[simp] theorem enterBuild_cfgAnswers : (enterBuild f s).cfgAnswers = s.cfgAnswers := rfl
@[simp] theorem enterBuild_cfgDraws : (enterBuild f s).cfgDraws = s.cfgDraws := rfl
@[simp] theorem enterBuild_beginAnswers : (enterBuild f s).beginAnswers = s.beginAnswers := rfl
@[simp] theorem enterBuild_beginDraws : (enterBuild f s).beginDraws = s.beginDraws := rfl
@[simp] theorem enterBuild_waitAnswers : (enterBuild f s).waitAnswers = s.waitAnswers := rfl
@[simp] theorem enterBuild_waitDraws : (enterBuild f s).waitDraws = s.waitDraws := rfl
@[simp] theorem enterBuild_hwOutcome : (enterBuild f s).hwOutcome = s.hwOutcome := rfl
@[simp] theorem enterBuild_inFade : (enterBuild f s).inFade = f := rfl

end

/-! ## nextCycle -/

section
variable (s : State)

@[simp] theorem nextCycle_color : s.nextCycle.color = s.color := rfl
@[simp] theorem nextCycle_bri : s.nextCycle.bri = s.bri := rfl
@[simp] theorem nextCycle_count : s.nextCycle.count = s.count := rfl
@[simp] theorem nextCycle_scol : s.nextCycle.scol = s.scol := rfl
@[simp] theorem nextCycle_pkt : s.nextCycle.pkt = s.pkt := rfl
@[simp] theorem nextCycle_fc : s.nextCycle.fc = s.fc := rfl
@[simp] theorem nextCycle_fch : s.nextCycle.fch = s.fch := rfl
@[simp] theorem nextCycle_fstep : s.nextCycle.fstep = s.fstep := rfl
@[simp] theorem nextCycle_ctrl : s.nextCycle.ctrl = s.ctrl := rfl
@[simp] theorem nextCycle_rdptr : s.nextCycle.rdptr = s.rdptr := rfl
@[simp] theorem nextCycle_phase : s.nextCycle.phase = s.phase := rfl
@[simp] theorem nextCycle_tickcnt : s.nextCycle.tickcnt = s.tickcnt := rfl
@[simp] theorem nextCycle_presc : s.nextCycle.presc = s.presc := rfl
@[simp] theorem nextCycle_rspValid : s.nextCycle.rspValid = false := rfl
@[simp] theorem nextCycle_freqMhz : s.nextCycle.freqMhz = s.freqMhz := rfl
@[simp] theorem nextCycle_pin : s.nextCycle.pin = s.pin := rfl
@[simp] theorem nextCycle_tickDiv : s.nextCycle.tickDiv = s.tickDiv := rfl
@[simp] theorem nextCycle_drv : s.nextCycle.drv = s.drv := rfl
@[simp] theorem nextCycle_ch : s.nextCycle.ch = s.ch := rfl
@[simp] theorem nextCycle_flen : s.nextCycle.flen = s.flen := rfl
@[simp] theorem nextCycle_result : s.nextCycle.result = s.result := rfl
@[simp] theorem nextCycle_fb : s.nextCycle.fb = s.fb := rfl
@[simp] theorem nextCycle_txn : s.nextCycle.txn = s.txn := rfl
@[simp] theorem nextCycle_out : s.nextCycle.out = s.out := rfl
@[simp] theorem nextCycle_line : s.nextCycle.line = s.line := rfl
@[simp] theorem nextCycle_dly : s.nextCycle.dly = s.dly := rfl
@[simp] theorem nextCycle_params : s.nextCycle.params = s.params := rfl
@[simp] theorem nextCycle_hostInputs : s.nextCycle.hostInputs = s.hostInputs := rfl
@[simp] theorem nextCycle_cfgAnswers : s.nextCycle.cfgAnswers = s.cfgAnswers := rfl
@[simp] theorem nextCycle_cfgDraws : s.nextCycle.cfgDraws = s.cfgDraws := rfl
@[simp] theorem nextCycle_beginAnswers : s.nextCycle.beginAnswers = s.beginAnswers := rfl
@[simp] theorem nextCycle_beginDraws : s.nextCycle.beginDraws = s.beginDraws := rfl
@[simp] theorem nextCycle_waitAnswers : s.nextCycle.waitAnswers = s.waitAnswers := rfl
@[simp] theorem nextCycle_waitDraws : s.nextCycle.waitDraws = s.waitDraws := rfl
@[simp] theorem nextCycle_hwOutcome : s.nextCycle.hwOutcome = s.hwOutcome := rfl
@[simp] theorem nextCycle_inFade : s.nextCycle.inFade = s.inFade := rfl

end

/-! ## accept -/

section
variable (r : List HostInput) (s : State)

@[simp] theorem accept_color : (s.accept r).color = s.color := rfl
@[simp] theorem accept_bri : (s.accept r).bri = s.bri := rfl
@[simp] theorem accept_count : (s.accept r).count = s.count := rfl
@[simp] theorem accept_scol : (s.accept r).scol = s.scol := rfl
@[simp] theorem accept_pkt : (s.accept r).pkt = s.pkt := rfl
@[simp] theorem accept_fc : (s.accept r).fc = s.fc := rfl
@[simp] theorem accept_fch : (s.accept r).fch = s.fch := rfl
@[simp] theorem accept_fstep : (s.accept r).fstep = s.fstep := rfl
@[simp] theorem accept_ctrl : (s.accept r).ctrl = s.ctrl := rfl
@[simp] theorem accept_rdptr : (s.accept r).rdptr = s.rdptr := rfl
@[simp] theorem accept_phase : (s.accept r).phase = s.phase := rfl
@[simp] theorem accept_tickcnt : (s.accept r).tickcnt = s.tickcnt := rfl
@[simp] theorem accept_presc : (s.accept r).presc = s.presc := rfl
@[simp] theorem accept_rspValid : (s.accept r).rspValid = false := rfl
@[simp] theorem accept_freqMhz : (s.accept r).freqMhz = s.freqMhz := rfl
@[simp] theorem accept_pin : (s.accept r).pin = s.pin := rfl
@[simp] theorem accept_tickDiv : (s.accept r).tickDiv = s.tickDiv := rfl
@[simp] theorem accept_drv : (s.accept r).drv = s.drv := rfl
@[simp] theorem accept_ch : (s.accept r).ch = s.ch := rfl
@[simp] theorem accept_flen : (s.accept r).flen = s.flen := rfl
@[simp] theorem accept_result : (s.accept r).result = s.result := rfl
@[simp] theorem accept_fb : (s.accept r).fb = s.fb := rfl
@[simp] theorem accept_txn : (s.accept r).txn = s.txn := rfl
@[simp] theorem accept_out : (s.accept r).out = s.out := rfl
@[simp] theorem accept_line : (s.accept r).line = s.line := rfl
@[simp] theorem accept_dly : (s.accept r).dly = s.dly := rfl
@[simp] theorem accept_params : (s.accept r).params = s.params := rfl
@[simp] theorem accept_hostInputs : (s.accept r).hostInputs = r := rfl
@[simp] theorem accept_cfgAnswers : (s.accept r).cfgAnswers = s.cfgAnswers := rfl
@[simp] theorem accept_cfgDraws : (s.accept r).cfgDraws = s.cfgDraws := rfl
@[simp] theorem accept_beginAnswers : (s.accept r).beginAnswers = s.beginAnswers := rfl
@[simp] theorem accept_beginDraws : (s.accept r).beginDraws = s.beginDraws := rfl
@[simp] theorem accept_waitAnswers : (s.accept r).waitAnswers = s.waitAnswers := rfl
@[simp] theorem accept_waitDraws : (s.accept r).waitDraws = s.waitDraws := rfl
@[simp] theorem accept_hwOutcome : (s.accept r).hwOutcome = s.hwOutcome := rfl
@[simp] theorem accept_inFade : (s.accept r).inFade = s.inFade := rfl

end

end Sys2Proof.Machine
end

