-- ==== Sys2Proof/Laws/Transmit.lean ====
section
/-! SUPPORT. The shared operations of a transmission, each with what it can do: settling, resuming, beginning, building, dispatching,
executing one entry. -/

namespace Sys2Proof.Machine

open Sys2Proof.Config

/-! ## Settling and resuming (R197, R201, R195 step 5) -/

theorem settle_done {s : State} (h : s.hwOutcome = .done) :
    settle s = .done (endTx { s with out := s.out ++ [Event.txEnd] }) := by
  unfold settle; rw [h]

theorem settle_err {s : State} {e : BitVec 32} {m : Nat} (h : s.hwOutcome = .err e m) :
    settle s = .failed (.hardware e) (endTx s) := by
  unfold settle; rw [h]

theorem settle_never {s : State} {m : Nat} (h : s.hwOutcome = .never m) : settle s = .hung s := by
  unfold settle; rw [h]

/-- Everything a settled transmission can resume to. -/
theorem resume_settle_cases {s t : State} (h : resume (settle s) = .next t) :
    (s.hwOutcome = .done ∧
      ((s.inFade = true ∧ t = enterDelay (endTx { s with out := s.out ++ [Event.txEnd] })) ∨
        (s.inFade = false ∧ t = respondOk (endTx { s with out := s.out ++ [Event.txEnd] })))) ∨
    (∃ e m, s.hwOutcome = .err e m ∧ t = raise (.hardware e) (endTx s)) ∨
    (∃ m, s.hwOutcome = .never m ∧ t = s) := by
  rcases ho : s.hwOutcome with _ | ⟨e, m⟩ | m
  · rw [settle_done ho, resume] at h
    split at h
    · rename_i hf; cases h; exact .inl ⟨rfl, .inl ⟨hf, by rw [← ho]⟩⟩
    · rename_i hf; cases h; exact .inl ⟨rfl, .inr ⟨by simpa using hf, by rw [← ho]⟩⟩
  · rw [settle_err ho] at h; cases h; exact .inr (.inl ⟨e, m, rfl, rfl⟩)
  · rw [settle_never ho] at h; cases h; exact .inr (.inr ⟨m, rfl, rfl⟩)

/-- A settled transmission always goes on. -/
theorem resume_settle_runs (s : State) : ∃ t, resume (settle s) = .next t := by
  rcases ho : s.hwOutcome with _ | ⟨e, m⟩ | m
  · rw [settle_done ho, resume]; split <;> exact ⟨_, rfl⟩
  · rw [settle_err ho]; exact ⟨_, rfl⟩
  · rw [settle_never ho]; exact ⟨_, rfl⟩

/-- Everything an entry executed by the serializer can leave (R203). -/
theorem execEntry_cases {p : PulseCode} {s t : State} (h : execEntry p s = .next t) :
    (¬ (s.ch = .transmitting ∧ s.txn.isSome = true) ∧ t = s) ∨
    (s.ch = .transmitting ∧ s.txn.isSome = true ∧
      ((∃ ws, Emitted s ws t ∧ t.rdptr = s.rdptr + 1) ∨
        (∃ u ws, Emitted s ws u ∧ u.rdptr = s.rdptr ∧ resume (settle u) = .next t))) := by
  rw [execEntry] at h
  split at h
  · rename_i hc
    refine .inr ⟨hc.1, hc.2, ?_⟩
    obtain ⟨u, hu, -, he, hp, -⟩ | ⟨u, hu, -, he, hp, -⟩ | ⟨u, k, hu, -, -, hp, he, -⟩ := serializeEntry_cases p s
    · rw [hu] at h; exact .inr ⟨u, _, he, hp, h⟩
    · rw [hu] at h; cases h; exact .inl ⟨_, he, hp⟩
    · rw [hu] at h; exact .inr ⟨u, _, he, hp, h⟩
  · rename_i hc; cases h; exact .inl ⟨hc, rfl⟩

/-! ## Building (R195 steps 1 to 3) -/

/-- The state the build of WRITE_BODY leaves. -/
def builtFrom (b : State) : State :=
  { b with
    ctrl := .build
    pkt := packet b.scol
    fb := Memory.writeList b.fb 0 (frameWords (packet b.scol) b.count.toNat)
    flen := BitVec.ofNat 21 (BITS_PER_LED * b.count.toNat + 1) }

theorem buildBody_ok {b : State} (h : b.count.toNat + 2 ≤ b.params.maxLeds) : buildBody b = .ok (builtFrom b) := by
  have hc : capacityExceeded b.params b.count = false := capacityExceeded_eq_false.mpr h
  rw [buildBody]
  simp only [hc]
  rw [buildFrame_ok _ (by exact h)]
  rfl

theorem buildBody_capacity {b : State} (h : b.params.maxLeds ≤ b.count.toNat + 1) :
    buildBody b = .error (.failed .capacity { b with ctrl := .build }) := by
  have hc : capacityExceeded b.params b.count = true := capacityExceeded_eq_true.mpr h
  rw [buildBody]
  simp only [hc]
  rfl

theorem packet_toList (c : Color) : (packet c).toList = packetCodes c := by simp [packet, Vector.toList]

theorem frameLength (n : BitVec 16) : (BitVec.ofNat 21 (24 * n.toNat + 1)).toNat = 24 * n.toNat + 1 := by
  have := n.isLt
  rw [BitVec.toNat_ofNat]; omega

theorem builtFrom_holds (b : State) : HoldsFrame (builtFrom b) b.scol b.count.toNat where
  length := frameLength b.count
  packet_eq := rfl
  data := by
    intro i hi
    simp only [BITS_PER_LED] at hi ⊢
    simp only [builtFrom]
    rw [Memory.read_writeList, frameWords_length, if_pos (by omega), Nat.sub_zero, frameWords_data _ _ _ hi, packet_toList]
  terminator := by
    simp only [builtFrom, BITS_PER_LED]
    rw [Memory.read_writeList, frameWords_length, if_pos (by omega), Nat.sub_zero, frameWords_terminator]

theorem builtFrom_rest (b : State) (i : Nat) (hi : 24 * b.count.toNat < i) :
    Memory.read (builtFrom b).fb i = Memory.read b.fb i := by
  simp only [builtFrom]
  rw [Memory.read_writeList, frameWords_length, if_neg (by omega)]

theorem builtFrom_wf (b : State) (h : Memory.wf b.fb = true) : Memory.wf (builtFrom b).fb = true :=
  Memory.wf_writeList _ _ _ h

/-- A frame stands wherever `FLEN`, `PKT` and `FB` are the same. -/
theorem HoldsFrame.congr {s t : State} {c : Color} {n : Nat} (h : HoldsFrame s c n) (h1 : t.flen = s.flen)
    (h2 : t.pkt = s.pkt) (h3 : t.fb = s.fb) : HoldsFrame t c n where
  length := by rw [h1]; exact h.length
  packet_eq := by rw [h2]; exact h.packet_eq
  data := by rw [h3]; exact h.data
  terminator := by rw [h3]; exact h.terminator

/-- What the serializer reads of a frame: its words, in order (R62). -/
theorem HoldsFrame.reads {s : State} {c : Color} {n : Nat} (h : HoldsFrame s c n) (i : Nat)
    (hi : i < (frameWords (packet c) n).length) : Memory.read s.fb i = some (frameWords (packet c) n)[i] := by
  rw [← List.getElem?_eq_getElem hi]
  rw [frameWords_length] at hi
  by_cases h1 : i < 24 * n
  · rw [h.data i h1, frameWords_data _ _ _ h1, packet_toList]; rfl
  · obtain rfl : i = 24 * n := by omega
    rw [frameWords_terminator]; exact h.terminator

/-! ## DISPATCH (R197) -/

/-- The state in which the serializer starts. -/
def started (s : State) : State :=
  { s with
    ctrl := .tx
    ch := .transmitting
    beginAnswers := s.beginAnswers.tail
    beginDraws := s.beginDraws + 1
    hwOutcome := s.waitAt 0
    waitAnswers := s.waitAnswers.tail
    waitDraws := s.waitDraws + 1
    txn := some s.flen
    rdptr := 0 }

theorem beginTx_ok {s : State} (h : s.beginAt 0 = .ok) : beginTx s = .running (started s) := by
  have hb : ({ s with ctrl := .tx, ch := .transmitting } : State).beginAt 0 = .ok := h
  rw [beginTx]
  simp only [hb]
  rfl

theorem beginTx_err {s : State} {e : BitVec 32} (h : s.beginAt 0 = .err e) :
    beginTx s =
      .ended (.failed (.hardware e)
        { s with ctrl := .tx, ch := .idle, beginAnswers := s.beginAnswers.tail, beginDraws := s.beginDraws + 1 }) := by
  have hb : ({ s with ctrl := .tx, ch := .transmitting } : State).beginAt 0 = .err e := h
  rw [beginTx]
  simp only [hb]
  rfl

/-- Everything a dispatch of a frame can do once it has begun, before it is settled. -/
theorem dispatch_begun {s : State} {c : Color} {n : Nat} (h : HoldsFrame s c n) (hb : s.beginAt 0 = .ok) :
    ∃ u, dispatch s = settle u ∧ Emitted (started s) (cutWave (s.waitAt 0) (frameWave c n)) u ∧
      u.rdptr.toNat ≤ s.flen.toNat ∧
      ((∀ m, budget (s.waitAt 0) = some m → totalTicks (frameWave c n) ≤ m) →
        u.rdptr.toNat = wholeEntries (frameWords (packet c) n)) := by
  have hl : s.flen.toNat = 24 * n + 1 := h.length
  have hlt := s.flen.isLt
  have h0 : (started s).rdptr.toNat = 0 := rfl
  obtain ⟨u, hu, he, -, hle, hst⟩ := transmit_spec (frameWords (packet c) n) (started s)
    (fun i hi => by rw [h0, Nat.zero_add]; exact h.reads i hi) (by rw [h0, frameWords_length]; omega)
  refine ⟨u, ?_, he, by rw [h0, frameWords_length] at hle; omega, fun hb => ?_⟩
  · rw [dispatch, beginTx_ok hb]
    simp only
    rw [show (started s).flen.toNat = (frameWords (packet c) n).length by rw [frameWords_length]; exact hl, hu]
  · rw [hst hb, h0]; omega

end Sys2Proof.Machine
end

