-- ==== Sys2Proof/Laws/Step.lean ====
section
/-! SUPPORT. Which part of a step runs, case by case, and what the commands do with a driver and without one. -/

namespace Sys2Proof.Machine

open Sys2Proof.Config

/-! ## The ports (R29, R270, R290) -/

theorem step_nothing {s : State} (h : s.hostInputs = []) : step s = advance s.nextCycle := by unfold step; rw [h]

theorem step_pause {s : State} {r : List HostInput} (h : s.hostInputs = .pause :: r) : step s = advance (s.accept r) := by
  unfold step; rw [h]

theorem step_reset {s : State} {r : List HostInput} (h : s.hostInputs = .reset :: r) : step s = .next (s.applyReset r) := by
  unfold step; rw [h]

theorem cmdReady_iff (s : State) : s.cmdReady = true ↔ s.ctrl = .idle := by
  cases h : s.ctrl <;> simp [State.cmdReady, State.busy, h]

theorem step_held {s : State} {r : List HostInput} {g : Pace} {w : CmdWord} (h : s.hostInputs = .command g w :: r) (hc : s.ctrl ≠ .idle) :
    step s = advance s.nextCycle := by
  unfold step; rw [h]; simp only
  rw [if_neg (by rw [cmdReady_iff]; exact hc)]

theorem step_accepted {s : State} {r : List HostInput} {g : Pace} {w : CmdWord} (h : s.hostInputs = .command g w :: r)
    (hc : s.ctrl = .idle) : step s = runCommand g w (s.accept r) := by
  unfold step; rw [h]; simp only
  rw [if_pos (by rw [cmdReady_iff]; exact hc)]

theorem nextCycle_eq {s : State} (h : s.rspValid = false) : s.nextCycle = s := by
  obtain ⟨⟩ := s; simp only at h; subst h; rfl

theorem accept_eq {s : State} {r : List HostInput} (h : s.rspValid = false) : s.accept r = { s with hostInputs := r } := by
  obtain ⟨⟩ := s; simp only at h; subst h; rfl

/-- A busy block that the host lets work goes on, and the host's script stays (R270). -/
theorem step_undisturbed {s : State} (h : Undisturbed s) (hc : s.ctrl ≠ .idle) (hv : s.rspValid = false) :
    step s = advance s := by
  have e := nextCycle_eq hv
  cases hq : s.hostInputs with
  | nil => rw [step_nothing hq, e]
  | cons a r =>
    cases a with
    | command g w => rw [step_held hq hc, e]
    | pause => exact absurd hq (h.2 r)
    | reset => exact absurd hq (h.1 r)

/-! ## Runs of steps -/

theorem run_succ {s u : State} (k : Nat) (h : step s = .next u) :
    Host.Core.run Sys2Proof.core (k + 1) s = Host.Core.run Sys2Proof.core k u := by
  have h' : Sys2Proof.core.step s = .next u := h
  simp only [Host.Core.run, h']

/-- One more step after a run. -/
theorem run_then {k : Nat} {s u : State} (h : Host.Core.run Sys2Proof.core k s = .next u) :
    Host.Core.run Sys2Proof.core (k + 1) s = step u := by
  induction k generalizing s with
  | zero =>
    cases h
    cases hs : step u <;> (have h' : Sys2Proof.core.step u = _ := hs; simp only [Host.Core.run, h']; rfl)
  | succ k ih =>
    cases hs : step s with
    | next v => rw [run_succ k hs] at h; rw [run_succ _ hs]; exact ih h
    | fault f => have h' : Sys2Proof.core.step s = .fault f := hs; simp only [Host.Core.run, h'] at h; cases h
    | refused f => have h' : Sys2Proof.core.step s = .refused f := hs; simp only [Host.Core.run, h'] at h; cases h

/-! ## The controller (R27) -/

theorem advance_idle {s : State} (h : s.ctrl = .idle) : advance s = .next s := by unfold advance; rw [h]
theorem advance_build {s : State} (h : s.ctrl = .build) : advance s = buildStep s := by unfold advance; rw [h]
theorem advance_tx {s : State} (h : s.ctrl = .tx) : advance s = serializerStep s := by unfold advance; rw [h]
theorem advance_delay {s : State} (h : s.ctrl = .delay) : advance s = delayStep s := by unfold advance; rw [h]

/-! ## The serializer's step (R203) -/

/-- The instruction of a symbol does what the four fields of its word say (R105). -/
theorem exec_symbol {w : PulseWord} {i : Instr} (h : decodePulse w = some i) (s : State) :
    exec i s = execEntry (PulseCode.ofWord w) s := by
  unfold decodePulse at h
  split_ifs at h <;> cases h <;> subst_vars
  · rw [show PulseCode.ofWord 0x00098010#32 = encOne by decide]; rfl
  · rw [show PulseCode.ofWord 0x00118008#32 = encZero by decide]; rfl
  · rw [show PulseCode.ofWord 0x00000000#32 = termCode by decide]; rfl

theorem serializerStep_entry {s : State} {w : PulseWord} (h : s.fetchEntry = .entry w) :
    serializerStep s = execEntry (PulseCode.ofWord w) s := by
  rw [serializerStep, h]
  simp only
  cases hd : decodePulse w with
  | none => rfl
  | some i => exact exec_symbol hd s

/-! ## The commands (R191, R194, R230, R254) -/

theorem exec_send_unbuilt {c : Color} {b : Byte} {n : BitVec 16} {s : State} (h : s.drv = .unbuilt) :
    exec (.send c b n) s = .next (raise .notReady (s.latchSend c b n)) := by
  show execSend c b n s = _
  simp only [execSend, latchSend_drv, h]

theorem exec_write_unbuilt {c : Color} {n : BitVec 16} {s : State} (h : s.drv = .unbuilt) :
    exec (.write c n) s = .next (raise .notReady (s.latchColor c n)) := by
  show execWrite c n s = _
  simp only [execWrite, latchColor_drv, h]

theorem exec_fade_unbuilt {c : Color} {n : BitVec 16} {s : State} (h : s.drv = .unbuilt) :
    exec (.fade c n) s = .next (raise .notReady (s.latchColor c n)) := by
  show execFade c n s = _
  simp only [execFade, latchColor_drv, h]

theorem exec_send_ready {c : Color} {b : Byte} {n : BitVec 16} {s : State} (h : s.drv = .ready) :
    exec (.send c b n) s = conclude (writeBody (sendBase c b n s)) := by
  show execSend c b n s = _
  unfold execSend
  simp only
  split
  · rename_i hd; cases h.symm.trans hd
  · rfl

theorem exec_write_ready {c : Color} {n : BitVec 16} {s : State} (h : s.drv = .ready) :
    exec (.write c n) s = conclude (writeBody (writeBase c n s)) := by
  show execWrite c n s = _
  unfold execWrite
  simp only
  split
  · rename_i hd; cases h.symm.trans hd
  · rfl

theorem exec_fade_ready {c : Color} {n : BitVec 16} {s : State} (h : s.drv = .ready) :
    exec (.fade c n) s =
      conclude (fadeLoop fadeSchedule { s.latchColor c n with fc := c, fch := .blue, fstep := 0, inFade := true }) := by
  show execFade c n s = _
  unfold execFade
  simp only
  split
  · rename_i hd; cases h.symm.trans hd
  · rfl

/-! ## The commands started in single steps (log 1) -/

/-- Without a driver there is nothing to do in single steps: the answer of R254 comes at once. -/
theorem start_unbuilt {i : Instr} {s : State} (h : s.drv = .unbuilt) : start i s = exec i s := by
  cases i with
  | send c b n => rw [exec_send_unbuilt h]; simp only [start, startSend, latchSend_drv, h]
  | write c n => rw [exec_write_unbuilt h]; simp only [start, startWrite, latchColor_drv, h]
  | fade c n => rw [exec_fade_unbuilt h]; simp only [start, startFade, latchColor_drv, h]
  | construct f p => rfl
  | one => rfl
  | zero => rfl
  | term => rfl

theorem start_send_ready {c : Color} {b : Byte} {n : BitVec 16} {s : State} (h : s.drv = .ready) :
    start (.send c b n) s = .next (enterBuild false (sendBase c b n s)) := by
  simp only [start, startSend]
  split
  · rename_i hd; cases h.symm.trans hd
  · rfl

theorem start_write_ready {c : Color} {n : BitVec 16} {s : State} (h : s.drv = .ready) :
    start (.write c n) s = .next (enterBuild false (writeBase c n s)) := by
  simp only [start, startWrite]
  split
  · rename_i hd; cases h.symm.trans hd
  · rfl

theorem start_fade_ready {c : Color} {n : BitVec 16} {s : State} (h : s.drv = .ready) :
    start (.fade c n) s =
      .next (enterBuild true
        (fadePaint .blue 0 { s.latchColor c n with fc := c, fch := .blue, fstep := 0, inFade := true })) := by
  simp only [start, startFade]
  split
  · rename_i hd; cases h.symm.trans hd
  · rfl

/-- Entering `BUILD` changes nothing that WRITE_BODY reads (R195). -/
theorem writeBody_enterBuild (b : State) : writeBody (enterBuild b.inFade b) = writeBody b := rfl

end Sys2Proof.Machine
end

