-- ==== Sys2Proof/Tests/Slice0.lean ====
section
/-! SUPPORT. Tests with expected results from spec/95_test_vectors.md (their ids stand in the comments) or worked out by hand from
the rules, and for each obligation with hypotheses a witness that meets them. -/

set_option maxRecDepth 100000

namespace Sys2Proof.Tests

open Sys2Proof.Config Sys2Proof.Machine

/-! ## Small states -/

/-- `MAX_LEDS = 8`, the other parameters at their defaults. -/
def params8 : Params := ⟨7, true, false, .evolving, 49⟩

def afterReset : State := State.resetWith params8

/-- The state P1 has after its first command, but with an empty trace. -/
def ready : State := { afterReset with drv := .ready, tickDiv := 4, freqMhz := 80, line := .driven true }

def readyWith (begins : List HwResult) (waits : List WaitResult) : State :=
  { ready with beginAnswers := begins, waitAnswers := waits }

/-- A transmission of the frame of no LED is pending, with an outcome. -/
def sending (o : WaitResult) : State :=
  { ready with
    ctrl := .tx, ch := .transmitting, txn := some 1, flen := 1, fb := [(0, termWord)], pkt := packet ⟨0, 0, 0⟩
    hwOutcome := o }

/-- The state a step or an instruction answers. -/
def answer : Host.Outcome State Fault Refusal → State
  | .next s => s
  | .fault _ => afterReset
  | .refused _ => afterReset

/-- What one offered word does. -/
def after (s : State) (w : CmdWord) : State := answer (step (s.offerWord w))

/-! ## Decoding (V70 to V84) -/

theorem test_decode_construct : decodeTableWord 64 0x0100A01200000000 = some (.construct 160 18) := by decide
theorem test_decode_send : decodeTableWord 64 0x020001FF00123456 = some (.send ⟨18, 52, 86⟩ 255 1) := by decide
theorem test_decode_write : decodeTableWord 64 0x0300060000010204 = some (.write ⟨1, 2, 4⟩ 6) := by decide
theorem test_decode_fade : decodeTableWord 64 0x04000100000000FF = some (.fade ⟨0, 0, 255⟩ 1) := by decide
theorem test_decode_one : decodeTableWord 32 0x00098010 = some .one := by decide
theorem test_decode_zero : decodeTableWord 32 0x00118008 = some .zero := by decide
theorem test_decode_term : decodeTableWord 32 0 = some .term := by decide
/-- V78 to V80. -/
theorem test_decode_bad_opcodes :
    decodeTableWord 64 0 = none ∧ decodeTableWord 64 0x0500000000000000 = none ∧
      decodeTableWord 64 0xFFFFFFFFFFFFFFFF = none := by decide
/-- A frame-buffer word that is none of the three symbols. -/
theorem test_decode_other_entry : decodeTableWord 32 0x00098011 = none := by decide

/-! ## WellFormed: each check refuses an ill-formed command (R101; V78, V81 to V84) -/

theorem test_wf_opcode : CommandFields.check ⟨0x00, 1, 0, 0, 0, 0, 0⟩ = .error .opcode := by rfl
theorem test_wf_construct : CommandFields.check ⟨0x01, 80, 0, 0, 0, 0, 1⟩ = .error .constructReserved := by rfl
theorem test_wf_send : CommandFields.check ⟨0x02, 2, 0x7F, 1, 255, 128, 1⟩ = .error .sendReserved := by rfl
theorem test_wf_write : CommandFields.check ⟨0x03, 1, 0x7F, 0, 255, 0, 0⟩ = .error .writeReserved := by rfl
theorem test_wf_fade : CommandFields.check ⟨0x04, 1, 0x01, 0, 0, 0, 0⟩ = .error .fadeReserved := by rfl
theorem test_wf_legal : CommandFields.legal ⟨0x02, 2, 0x7F, 0, 255, 128, 1⟩ = true := by decide

/-! ## Operations -/

/-- V19, V18a, V18b. -/
theorem test_scale : scale 100 50 = 19 ∧ scale 128 1 = 1 ∧ scale 127 1 = 0 := by decide
/-- V60. -/
theorem test_ramp : [0, 254, 255, 256, 509].map ramp = [0, 254, 255, 254, 1] := by decide
/-- V27. -/
theorem test_packet : ((packetCodes ⟨18, 52, 86⟩).map fun w => w == enc true) =
    [false, false, true, true, false, true, false, false, false, false, false, true, false, false, true, false,
      false, true, false, true, false, true, true, false] := by decide
/-- The listing of V73 (R109). -/
theorem test_listing :
    (Instr.send ⟨255, 128, 1⟩ 127 2).listing =
      "SEND Color" ++ String.singleton (Char.ofNat 123) ++ "255,128,1" ++ String.singleton (Char.ofNat 125) ++ ", 127, 2" := by
  decide

/-! ## Instructions, one step each -/

/-- P1, command 1. -/
theorem test_construct :
    let t := after { afterReset with cfgAnswers := [.ok] } 0x0100500000000000
    t.tickDiv = 4 ∧ t.drv = .ready ∧ t.out = [.drive true] ∧ t.line = .driven true ∧ t.result = 0 ∧ t.rspValid = true := by decide
/-- V95. -/
theorem test_construct_error :
    let t := after { ready with cfgAnswers := [.err 0x22] } 0x0100500000000000
    t.result = 0x0000002203 ∧ t.drv = .unbuilt ∧ t.tickDiv = 0 := by decide
/-- P2, its first LED's green byte and its registers. -/
theorem test_send :
    let t := after (readyWith [.ok] [.done]) 0x0200027F00FF8001
    t.scol = ⟨127, 64, 0⟩ ∧ t.flen = 49 ∧ t.result = 0 ∧
      t.out.take 4 = [.seg true 8, .seg false 17, .seg true 16, .seg false 9] := by decide
/-- P5, command 4. -/
theorem test_send_not_ready :
    let t := after afterReset 0x020001FF00090909
    t.result = 0x0000000005 ∧ t.color = ⟨9, 9, 9⟩ ∧ t.bri = 255 ∧ t.count = 1 ∧ t.scol = ⟨0, 0, 0⟩ := by decide
/-- P1, command 2. -/
theorem test_write :
    let t := after (readyWith [.ok] [.done]) 0x0300010000FF0000
    t.out.length = 49 ∧ t.out.getLast? = some .txEnd ∧ Memory.read t.fb 8 = some 0x00098010 ∧ Memory.read t.fb 24 = some 0 ∧
      t.line = .driven false := by decide
/-- V53. -/
theorem test_write_cut :
    let t := after (readyWith [.ok] [.err 5 30]) 0x0300010000FF0000
    t.result = 0x0000000502 ∧ t.out = [.seg true 8, .seg false 17, .seg true 5] ∧ t.ch = .idle := by decide
/-- P4, from the state after its command 1. -/
theorem test_fade_cut :
    let t := after (readyWith (List.replicate 4 .ok) [.done, .done, .done, .err 0xBAD 310]) 0x04000100000000FF
    t.result = 0x00000BAD02 ∧ t.fstep = 3 ∧ t.scol = ⟨0, 0, 3⟩ ∧ t.out.length = 3 * 50 + 26 ∧
      t.out.getLast? = some (.seg false 2) := by decide
/-- V66. -/
theorem test_fade_first_error :
    let t := after (readyWith [.err 9] []) 0x04000100000000FF
    t.result = 0x0000000902 ∧ t.out = [] ∧ t.fstep = 0 ∧ t.fch = .blue := by decide
/-- A WRITE of one LED offered to run in single steps, then so many pauses and an assertion of `rst` (R292). -/
def interrupted (w : CmdWord) (pauses : Nat) : State :=
  { readyWith [.ok] [.done] with hostInputs := .command .stepwise w :: List.replicate pauses .pause ++ [.reset] }

/-- The state after so many steps. -/
def runs (k : Nat) (s : State) : State := answer (Host.Core.run Sys2Proof.core k s)

/-- R292: `rst` in a transmission, three entries of black in (V9i); the command is never answered. -/
theorem test_reset_in_transmission :
    let s := interrupted 0x0300010000000000 4
    ((runs 5 s).ctrl = .tx ∧ (runs 5 s).rdptr = 3 ∧ (runs 5 s).out = [.seg true 8, .seg false 17, .seg true 8, .seg false 17, .seg true 8, .seg false 17]) ∧
      (runs 6 s).ctrl = .idle ∧ (runs 6 s).drv = .unbuilt ∧ (runs 6 s).line = .z ∧ (runs 6 s).out = [] ∧ (runs 6 s).rspValid = false := by
  decide
/-- R292, R307: `rst` in the first delay of a fade of no LED. -/
theorem test_reset_in_delay :
    let s := interrupted 0x04000000000000FF 2
    ((runs 3 s).ctrl = .delay ∧ (runs 3 s).dly = 5 ∧ (runs 3 s).out = [.txEnd]) ∧
      (runs 4 s).ctrl = .idle ∧ (runs 4 s).dly = 0 ∧ (runs 4 s).out = [] ∧ (runs 4 s).rspValid = false := by decide
/-- V9h. -/
theorem test_one :
    let t := answer (step (ready.withFetchWord 32 0x00098010))
    t.out = [.seg true 16, .seg false 9] ∧ t.rdptr = 1 := by decide
/-- V9i, and V54 for the cut. -/
theorem test_zero :
    (answer (step (ready.withFetchWord 32 0x00118008))).out = [.seg true 8, .seg false 17] ∧
      (answer (exec .zero (sending (.err 5 24)))).out = [.seg true 8, .seg false 16] := by decide
/-- V58. -/
theorem test_term :
    let t := answer (step (ready.withFetchWord 32 0))
    t.out = [.txEnd] ∧ t.line = .driven false ∧ t.ch = .idle ∧ t.result = 0 ∧ t.rspValid = true := by decide
/-- P5, command 2. -/
theorem test_illegal : (after afterReset 0x0700000000000000).result = 0x0000000004 := by decide
/-- V92. -/
theorem test_capacity :
    let t := after (readyWith [.err 3] []) 0x0300070000000000
    t.result = 0x0000000001 ∧ t.beginDraws = 0 ∧ t.fb = [] := by decide

/-! ## Witnesses: concrete states and operands that meet the hypotheses of the obligations -/

theorem witness_EncodeOfDecodedWordIsTheWord :
    decodeCommand 0x0100500000000000 = .ok (.construct 80 0) ∧ decodePulse 0x00118008 = some .zero := ⟨by rfl, by decide⟩

theorem witness_CommandsMatchTheirPatterns :
    (0x0100A01200000000#64 &&& 0xFF000000FFFFFFFF#64 = 0x0100000000000000#64) ∧
    (0x020001FF00123456#64 &&& 0xFF000000FF000000#64 = 0x0200000000000000#64) ∧
    (0x03FFFF0000FFFFFF#64 &&& 0xFF0000FFFF000000#64 = 0x0300000000000000#64) ∧
    (0x04000100000000FF#64 &&& 0xFF0000FFFF000000#64 = 0x0400000000000000#64) := by decide

theorem witness_TickDividerFormula :
    (19 : BitVec 16).toNat ≤ 19 ∧ 20 ≤ (20 : BitVec 16).toNat ∧ (39 : BitVec 16).toNat ≤ 39 ∧ 80 ≤ (99 : BitVec 16).toNat ∧
      5100 ≤ (5119 : BitVec 16).toNat := by decide

theorem witness_ScaleLaws : (15 : Byte) ≤ 16 ∧ (16 : Byte).toNat * ((15 : Byte).toNat + 1) = 256 := by decide

theorem witness_RampValues :
    (254 : BitVec 9).toNat ≤ 254 ∧ 255 ≤ (255 : BitVec 9).toNat ∧ (509 : BitVec 9).toNat ≤ 509 ∧ (508 : BitVec 9).toNat < 509 := by
  decide

theorem witness_FadeScheduleOrder :
    fadeSchedule[509]? = some (.blue, 509) ∧ fadeSchedule[1020]? = some (.red, 0) ∧ fadeSchedule[1529]? = some (.red, 509) :=
  ⟨by rfl, by rfl, by rfl⟩

theorem witness_PacketRoundTrip : packet ⟨1, 2, 4⟩ = packet ⟨1, 2, 4⟩ := rfl

theorem witness_CapacityBoundary : (⟨0, true, false, .evolving, 49⟩ : Params).maxLeds = 1 := by decide

/-- Also for `EveryLedPositionDecodesToScol`: the largest count that passes (V33). -/
theorem witness_BuildFrameWritesTheFrame : capacityExceeded params8 6 = false ∧ capacityExceeded params8 7 = true := by decide

theorem witness_PrefixTicksLaws : ∀ g ∈ ([⟨true, 1⟩, ⟨false, 17⟩] : List Seg), 1 ≤ g.ticks := by decide

/-- Also for `CutSerializerEmitsThePrefix`: a slice of a symbol and the terminator, and the three outcomes. -/
def sliceState (o : WaitResult) : State := { sending o with fb := [(0, enc true), (1, termWord)], flen := 2, txn := some 2 }

theorem sliceState_reads (o : WaitResult) : ∀ i (h : i < [enc true, termWord].length),
    Memory.read (sliceState o).fb ((sliceState o).rdptr.toNat + i) = some [enc true, termWord][i] := by
  show ∀ i (h : i < [enc true, termWord].length),
    Memory.read [(0, enc true), (1, termWord)] (0 + i) = some [enc true, termWord][i]
  decide

theorem witness_SerializerEmitsTheWave (o : WaitResult) :
    (∀ i (h : i < [enc true, termWord].length),
      Memory.read (sliceState o).fb ((sliceState o).rdptr.toNat + i) = some [enc true, termWord][i]) ∧
    (sliceState o).rdptr.toNat + [enc true, termWord].length < 2 ^ 21 ∧
    (sliceState o).hwOutcome = o := ⟨sliceState_reads o, by show (0 : BitVec 21).toNat + 2 < 2 ^ 21; decide, rfl⟩

theorem witness_SerializerStepsAgreeWithTransmit :
    Sending (sliceState .done) ∧ (sliceState .done).hostInputs = [] ∧ (sliceState .done).rspValid = false ∧
      (sliceState .done).rdptr.toNat + 2 = (sliceState .done).flen.toNat := ⟨⟨rfl, rfl, rfl⟩, rfl, rfl, by decide⟩

theorem holds_empty_frame (o : WaitResult) : HoldsFrame (sending o) ⟨0, 0, 0⟩ 0 where
  length := by show (1 : BitVec 21).toNat = 1; decide
  packet_eq := rfl
  data := by intro i h; exact absurd h (Nat.not_lt_zero i)
  terminator := rfl

theorem witness_DispatchOutcomes :
    (∃ s, HoldsFrame s ⟨0, 0, 0⟩ 0 ∧ s.beginAt 0 = .err 0x107) ∧
    (∃ s, HoldsFrame s ⟨0, 0, 0⟩ 0 ∧ s.beginAt 0 = .ok ∧ s.waitAt 0 = .done) ∧
    (∃ s, HoldsFrame s ⟨0, 0, 0⟩ 0 ∧ s.beginAt 0 = .ok ∧ s.waitAt 0 = .err 5 30) ∧
    (∃ s, HoldsFrame s ⟨0, 0, 0⟩ 0 ∧ s.beginAt 0 = .ok ∧ s.waitAt 0 = .never 100) :=
  ⟨⟨{ sending .done with beginAnswers := [.err 0x107] }, (holds_empty_frame .done).congr rfl rfl rfl, rfl⟩,
    ⟨{ sending .done with beginAnswers := [.ok], waitAnswers := [.done] }, (holds_empty_frame .done).congr rfl rfl rfl, rfl, rfl⟩,
    ⟨{ sending .done with beginAnswers := [.ok], waitAnswers := [.err 5 30] },
      (holds_empty_frame .done).congr rfl rfl rfl, rfl, rfl⟩,
    ⟨{ sending .done with beginAnswers := [.ok], waitAnswers := [.never 100] },
      (holds_empty_frame .done).congr rfl rfl rfl, rfl, rfl⟩⟩

/-- Also for `DataSymbolsAreCut` and `TermEndsTheTransmission`: a pending transaction with any outcome, inside a fade or not. -/
theorem witness_DataSymbolsEmitTheirSegments (o : WaitResult) (b : Bool) :
    let s := { sending o with inFade := b }
    s.ch = .transmitting ∧ s.txn.isSome = true ∧ s.hwOutcome = o ∧ s.inFade = b := ⟨rfl, rfl, rfl, rfl⟩

theorem witness_ConstructEffect :
    20 ≤ (20 : BitVec 16).toNat ∧ (5119 : BitVec 16).toNat ≤ 5119 ∧ (19 : BitVec 16).toNat < 20 ∧ 5119 < (5120 : BitVec 16).toNat ∧
    ({ ready with cfgAnswers := [.ok] } : State).cfgAt 0 = .ok ∧
    ({ ready with cfgAnswers := [.err 0x22] } : State).cfgAt 0 = .err 0x22 := by decide

/-- The invariant of an idle block without a frame, whatever the host and the oracle have scheduled. -/
theorem inv_idle (d : Drv) (td : Byte) (l : Line) (hd : d = .ready → td ≠ 0) (hl : d = .ready → l ≠ .z)
    (hi : List HostInput) (a : List HwResult) (b : List HwResult) (w : List WaitResult) :
    Machine.Inv
      { afterReset with
        drv := d, tickDiv := td, line := l, hostInputs := hi, cfgAnswers := a, beginAnswers := b, waitAnswers := w } where
  memory_wf := rfl
  memory_bound := by intro e he; cases he
  frame := .inl rfl
  divider := hd
  idle_quiet := fun _ => ⟨rfl, rfl, rfl⟩
  busy_ready := fun h => absurd rfl h
  txn_iff := ⟨fun h => (by cases h), fun h => (by cases h)⟩
  tx_only := by intro h; cases h
  txn_len := by intro n h; cases h
  rdptr_le := by intro h; cases h
  fstep_lt := by show (0 : BitVec 9).toNat < FADE_STEPS; decide
  delay_loaded := by intro h; cases h
  rsp_idle := by intro h; cases h
  status_le := by show ((0 : RspWord).extractLsb' 0 8).toNat ≤ 5; decide
  line_driven := hl

theorem witness_ConstructLeavesAReadyDriver :
    let s : State := { afterReset with cfgAnswers := [.ok] }
    let t := answer (exec (.construct 80 0) s)
    Machine.Inv s ∧ s.ctrl = .idle ∧ exec (.construct 80 0) s = .next t ∧ t.status = statusOk ∧ 20 ∣ (80 : BitVec 16).toNat :=
  ⟨inv_idle .unbuilt 0 .z (by decide) (by decide) [] [.ok] [] [], rfl, rfl, by decide, by decide⟩

/-- Also for `SendCompletes`: the largest count that passes. -/
theorem witness_WriteCompletes :
    let s := readyWith [.ok] [.done]
    s.drv = .ready ∧ (6 : BitVec 16).toNat + 2 ≤ s.params.maxLeds ∧ s.beginAt 0 = .ok ∧ s.waitAt 0 = .done := by decide

theorem witness_SendAndWriteBeginError :
    let s := readyWith [.err 3] []
    s.drv = .ready ∧ (6 : BitVec 16).toNat + 2 ≤ s.params.maxLeds ∧ s.beginAt 0 = .err 3 := by decide

theorem witness_SendAndWriteWaitError :
    let s := readyWith [.ok] [.err 0 600]
    s.drv = .ready ∧ (1 : BitVec 16).toNat + 2 ≤ s.params.maxLeds ∧ s.beginAt 0 = .ok ∧ s.waitAt 0 = .err 0 600 := by decide

theorem witness_SendAndWriteHang :
    let s := readyWith [.ok] [.never 100]
    s.drv = .ready ∧ (1 : BitVec 16).toNat + 2 ≤ s.params.maxLeds ∧ s.beginAt 0 = .ok ∧ s.waitAt 0 = .never 100 := by decide

theorem witness_NotReadyWithoutADriver : afterReset.drv = .unbuilt := rfl

theorem witness_CapacityErrorBeforeHardware : ready.drv = .ready ∧ ready.params.maxLeds ≤ (7 : BitVec 16).toNat + 1 := by decide

theorem witness_SendAtFullAndZeroBrightness :
    let s := readyWith [.ok] [.done]
    exec (.write ⟨1, 2, 4⟩ 1) s = .next (answer (exec (.write ⟨1, 2, 4⟩ 1) s)) ∧
      exec (.write ⟨0, 0, 0⟩ 1) s = .next (answer (exec (.write ⟨0, 0, 0⟩ 1) s)) := ⟨rfl, rfl⟩

/-- A ready block in the first clause, the two cases of the last clause after it. -/
theorem witness_SendAndWriteLeaveTheRest :
    (exec (.send ⟨1, 2, 4⟩ 9 1) (readyWith [.ok] [.done]) =
        .next (answer (exec (.send ⟨1, 2, 4⟩ 9 1) (readyWith [.ok] [.done]))) ∧
      exec (.write ⟨1, 2, 4⟩ 1) (readyWith [.ok] [.done]) =
        .next (answer (exec (.write ⟨1, 2, 4⟩ 1) (readyWith [.ok] [.done])))) ∧
    (exec (.send ⟨1, 2, 4⟩ 9 1) afterReset = .next (answer (exec (.send ⟨1, 2, 4⟩ 9 1) afterReset)) ∧ afterReset.drv = .unbuilt) ∧
    (exec (.write ⟨1, 2, 4⟩ 7) ready = .next (answer (exec (.write ⟨1, 2, 4⟩ 7) ready)) ∧
      ready.params.maxLeds ≤ (7 : BitVec 16).toNat + 1) := ⟨⟨rfl, rfl⟩, ⟨rfl, rfl⟩, rfl, by decide⟩

theorem witness_OkMeansTheWholeFrameWasSent :
    let s := readyWith [.ok] [.done]
    let t := answer (exec (.write ⟨1, 2, 4⟩ 1) s)
    let u := answer (exec (.send ⟨1, 2, 4⟩ 9 1) s)
    s.rspValid = false ∧ exec (.write ⟨1, 2, 4⟩ 1) s = .next t ∧ t.rspValid = true ∧ t.status = statusOk ∧
      exec (.send ⟨1, 2, 4⟩ 9 1) s = .next u ∧ u.rspValid = true ∧ u.status = statusOk :=
  ⟨rfl, rfl, by decide, by decide, rfl, by decide, by decide⟩

/-- All the answers of a whole fade are good. -/
def fadeReady : State := readyWith (List.replicate 1530 .ok) (List.replicate 1530 .done)

theorem fadeReady_good (k : Nat) (h : k < 1530) : fadeReady.beginAt k = .ok ∧ fadeReady.waitAt k = .done := by
  simp only [fadeReady, readyWith, State.beginAt, State.waitAt, List.getElem?_replicate, if_pos h, Option.getD_some, and_self]

theorem witness_FadeCompletes :
    fadeReady.drv = .ready ∧ (6 : BitVec 16).toNat + 2 ≤ fadeReady.params.maxLeds ∧
      ∀ k, k < 1530 → fadeReady.beginAt k = .ok ∧ fadeReady.waitAt k = .done := ⟨rfl, by decide, fadeReady_good⟩

/-- What a step of a fade leaves for the next: the count, the parameters, and the answers after its own. -/
theorem fadeStep_good (c : FadeChannel) (k : BitVec 9) (s : State) (hc : s.count.toNat + 2 ≤ s.params.maxLeds)
    (hb : s.beginAt 0 = .ok) (hw : s.waitAt 0 = .done) :
    ∃ t, fadeStep c k s = .done t ∧ t.count = s.count ∧ t.params = s.params ∧
      (∀ i, t.beginAt i = s.beginAt (i + 1)) ∧ ∀ i, t.waitAt i = s.waitAt (i + 1) := by
  obtain ⟨u, hu, he, -⟩ := dispatch_begun (builtFrom_holds (fadePaint c k s)) (show (builtFrom (fadePaint c k s)).beginAt 0 = .ok from hb)
  have ho : u.hwOutcome = .done := by
    rw [he.hwOutcome_eq, show (started (builtFrom (fadePaint c k s))).hwOutcome = s.waitAt 0 from rfl, hw]; rfl
  refine ⟨_, by rw [fadeStep, writeBody, buildBody_ok (by exact hc)]; simp only [hu, settle_done ho]; rfl, ?_⟩
  rw [Emitted] at he
  have shift : ∀ {α : Type} (l : List α) (i : Nat), l.tail[i]? = l[i + 1]? := by intro α l i; cases l <;> simp
  simp only [runDelay_count, enterDelay_count, endTx_count, runDelay_params, enterDelay_params, endTx_params, State.beginAt,
    State.waitAt, runDelay_beginAnswers, enterDelay_beginAnswers, endTx_beginAnswers, runDelay_beginDraws, enterDelay_beginDraws,
    endTx_beginDraws, runDelay_waitAnswers, enterDelay_waitAnswers, endTx_waitAnswers, runDelay_waitDraws, enterDelay_waitDraws,
    endTx_waitDraws]
  rw [he]
  refine ⟨rfl, rfl, fun i => ?_, fun i => ?_⟩
  · show (s.beginAnswers.tail[i]?).getD (hwBegin (s.beginDraws + 1 + i)) = _
    rw [shift, Nat.add_assoc, Nat.add_comm 1 i]
  · show (s.waitAnswers.tail[i]?).getD (hwWait (s.waitDraws + 1 + i)) = _
    rw [shift, Nat.add_assoc, Nat.add_comm 1 i]

theorem fadeLoop_good (l : List (FadeChannel × BitVec 9)) (s : State) (hc : s.count.toNat + 2 ≤ s.params.maxLeds)
    (hg : ∀ i, i < l.length → s.beginAt i = .ok ∧ s.waitAt i = .done) : ∃ t, fadeLoop l s = .done t := by
  induction l generalizing s with
  | nil => exact ⟨s, rfl⟩
  | cons a l ih =>
    obtain ⟨t, h, h1, h2, h3, h4⟩ := fadeStep_good a.1 a.2 s hc (hg 0 (Nat.succ_pos _)).1 (hg 0 (Nat.succ_pos _)).2
    rw [fadeLoop, h]
    exact ih t (by rw [h1, h2]; exact hc) fun i hi => by rw [h3, h4]; exact hg (i + 1) (Nat.succ_lt_succ hi)

theorem witness_OkFadeSentEveryFrame :
    fadeReady.rspValid = false ∧
      ∃ t, exec (.fade ⟨0, 0, 255⟩ 6) fadeReady = .next t ∧ t.rspValid = true ∧ t.status = statusOk := by
  obtain ⟨t, h⟩ := fadeLoop_good fadeSchedule
    { fadeReady.latchColor ⟨0, 0, 255⟩ 6 with fc := ⟨0, 0, 255⟩, fch := .blue, fstep := 0, inFade := true }
    (by show (6 : BitVec 16).toNat + 2 ≤ params8.maxLeds; decide) (fun i hi => fadeReady_good i hi)
  exact ⟨rfl, respondOk t, by rw [exec_fade_ready rfl, h]; rfl, rfl, by show (rspWord statusOk 0).extractLsb' 0 8 = statusOk; decide⟩

/-- The last step fails, in the begin or in the wait, or hangs; also for `FadeHangsAtAStep`. -/
def fadeLast (b : HwResult) (w : WaitResult) : State :=
  readyWith (List.replicate 1529 .ok ++ [b]) (List.replicate 1529 .done ++ [w])

theorem witness_FadeAbortsAtTheFirstError (b : HwResult) (w : WaitResult) :
    (fadeLast b w).drv = .ready ∧ (6 : BitVec 16).toNat + 2 ≤ (fadeLast b w).params.maxLeds ∧
      fadeSchedule[1529]? = some (.red, 509) ∧
      (∀ i, i < 1529 → (fadeLast b w).beginAt i = .ok ∧ (fadeLast b w).waitAt i = .done) ∧
      (fadeLast b w).beginAt 1529 = b ∧ (fadeLast b w).waitAt 1529 = w := by
  refine ⟨rfl, by show 8 ≤ params8.maxLeds; decide, by rfl, fun i h => ?_, ?_, ?_⟩
  · simp only [fadeLast, readyWith, State.beginAt, State.waitAt]
    rw [List.getElem?_append_left (by rw [List.length_replicate]; exact h),
      List.getElem?_append_left (by rw [List.length_replicate]; exact h), List.getElem?_replicate, if_pos h,
      List.getElem?_replicate, if_pos h]
    exact ⟨rfl, rfl⟩
  · simp only [fadeLast, readyWith, State.beginAt]
    rw [List.getElem?_append_right (by rw [List.length_replicate]), List.length_replicate]; rfl
  · simp only [fadeLast, readyWith, State.waitAt]
    rw [List.getElem?_append_right (by rw [List.length_replicate]), List.length_replicate]; rfl

/-- The same at the first step. -/
theorem witness_FadeAbortsAtTheFirstError_first (b : HwResult) (w : WaitResult) :
    (readyWith [b] [w]).drv = .ready ∧ (6 : BitVec 16).toNat + 2 ≤ (readyWith [b] [w]).params.maxLeds ∧
      fadeSchedule[0]? = some (.blue, 0) ∧ (readyWith [b] [w]).beginAt 0 = b ∧ (readyWith [b] [w]).waitAt 0 = w :=
  ⟨rfl, by show 8 ≤ params8.maxLeds; decide, by rfl, rfl, rfl⟩

theorem witness_PaintingFollowsTheCompositeTable : ready.fc = ready.color ∧ fadeSchedule[510]? = some (.green, 0) := ⟨rfl, by rfl⟩

theorem witness_StepRunsTheOfferedCommand (pace : Pace) :
    let s : State := { ready with hostInputs := [.command pace 0x0300010000FF0000] }
    s.hostInputs = [.command pace 0x0300010000FF0000] ∧ s.ctrl = .idle ∧
      decodeCommand 0x0300010000FF0000 = .ok (.write ⟨255, 0, 0⟩ 1) := ⟨rfl, rfl, by rfl⟩

/-- For each form of the host's script. -/
theorem witness_StepRunsTheFetchedEntry :
    Sending (sliceState .done) ∧ (sliceState .done).rdptr.toNat < (sliceState .done).flen.toNat ∧
      Memory.read (sliceState .done).fb (sliceState .done).rdptr.toNat = some (enc true) ∧ decodePulse (enc true) = some .one ∧
      (sliceState .done).hostInputs = [] ∧
      ({ sliceState .done with hostInputs := [.pause] } : State).hostInputs = .pause :: [] ∧
      ({ sliceState .done with hostInputs := [.command .whole 0x0300010000FF0000] } : State).hostInputs =
        [.command .whole 0x0300010000FF0000] :=
  ⟨⟨rfl, rfl, rfl⟩, by decide, by decide, by decide, rfl, rfl, rfl⟩

theorem witness_SingleStepsReachWhatExecAnswers :
    let s : State :=
      { afterReset with
        drv := .ready, tickDiv := 4, line := .driven true, hostInputs := [.command .whole 0x0300010000FF0000], cfgAnswers := []
        beginAnswers := [.ok], waitAnswers := [.never 0] }
    Machine.Inv s ∧ s.ctrl = .idle ∧ s.rspValid = false ∧ Undisturbed s ∧ (Instr.fade ⟨0, 0, 255⟩ 1).nbits = 64 ∧
      ∃ t, exec (.fade ⟨0, 0, 255⟩ 1) s = .next t :=
  ⟨inv_idle .ready 4 (.driven true) (by decide) (by decide) [.command .whole 0x0300010000FF0000] [] [.ok] [.never 0], rfl, rfl,
    ⟨(by intro r h; cases h), (by intro r h; cases h)⟩, rfl, ⟨_, rfl⟩⟩

theorem witness_IllegalWordAnswer :
    let s := afterReset.offerWord 0x0700000000000000
    Machine.Inv s ∧ s.hostInputs = [.command .whole 0x0700000000000000] ∧ s.ctrl = .idle ∧
      ∀ i, decodeCommand 0x0700000000000000 ≠ .ok i :=
  ⟨inv_idle .unbuilt 0 .z (by decide) (by decide) [.command .whole 0x0700000000000000] [] [] [], rfl, rfl, by intro i h; cases h⟩

theorem witness_BusyBlockHoldsTheCommand :
    let s : State := { sending .done with hostInputs := [.command .whole 0x0300010000FF0000] }
    s.hostInputs = [.command .whole 0x0300010000FF0000] ∧ s.ctrl ≠ .idle ∧ step s = .next (answer (step s)) :=
  ⟨rfl, by decide, rfl⟩

/-- The invariant of a pending transmission of the frame of no LED. -/
theorem inv_sending (o : WaitResult) : Machine.Inv (sending o) where
  memory_wf := by rfl
  memory_bound := by
    intro e he
    have h : e = (0, termWord) := by simpa [sending] using he
    subst h
    show 0 < params8.bufDepth
    decide
  frame := .inr ⟨⟨0, 0, 0⟩, 0, by show 0 < params8.maxLeds - 1; decide, holds_empty_frame o⟩
  divider := by intro _; show (4 : Byte) ≠ 0; decide
  idle_quiet := by intro h; cases h
  busy_ready := fun _ => rfl
  txn_iff := ⟨fun _ => rfl, fun _ => rfl⟩
  tx_only := fun _ => rfl
  txn_len := by intro n h; cases h; exact ⟨rfl, by show (1 : BitVec 21) ≠ 0; decide⟩
  rdptr_le := by intro _; show (0 : BitVec 21).toNat ≤ (1 : BitVec 21).toNat; decide
  fstep_lt := by show (0 : BitVec 9).toNat < FADE_STEPS; decide
  delay_loaded := by intro h; cases h
  rsp_idle := by intro h; cases h
  status_le := by show ((0 : RspWord).extractLsb' 0 8).toNat ≤ 5; decide
  line_driven := by intro _ h; cases h

theorem witness_HungBlockStaysHung :
    Machine.Inv (sending (.never 0)) ∧ Hung (sending (.never 0)) ∧ (∀ rest, (sending (.never 0)).hostInputs ≠ .reset :: rest) ∧
      ∀ rest, (sending (.never 0)).hostInputs ≠ .pause :: rest :=
  ⟨inv_sending _, ⟨⟨rfl, rfl, rfl⟩, rfl⟩, (by intro r h; cases h), (by intro r h; cases h)⟩

/-- A hang, and for the second clause a SEND, a WRITE and a FADE of one LED that `rst` falls into after any number of entries,
`k = 24` and, for the fade's delay, `k = 25` among them. -/
theorem witness_ResetFromAnyState :
    ({ sending (.never 0) with hostInputs := [.reset] } : State).hostInputs = [.reset] ∧
    decodeCommand 0x0200017F00000000 = .ok (.send ⟨0, 0, 0⟩ 127 1) ∧
    decodeCommand 0x0300010000000000 = .ok (.write ⟨0, 0, 0⟩ 1) ∧
    decodeCommand 0x0400010000000000 = .ok (.fade ⟨0, 0, 0⟩ 1) ∧
    ∀ w k, (interrupted w (k + 1)).ctrl = .idle ∧ (interrupted w (k + 1)).drv = .ready ∧
      (1 : BitVec 16).toNat + 2 ≤ (interrupted w (k + 1)).params.maxLeds ∧ (interrupted w (k + 1)).beginAt 0 = .ok ∧
      (interrupted w (k + 1)).waitAt 0 = .done ∧
      (interrupted w (k + 1)).hostInputs = .command .stepwise w :: (List.replicate (k + 1) .pause ++ .reset :: []) :=
  ⟨rfl, by rfl, by rfl, by rfl, fun _ _ => ⟨rfl, rfl, by show 3 ≤ params8.maxLeds; decide, rfl, rfl, rfl⟩⟩

theorem witness_IdleBlockWaits : ready.ctrl = .idle ∧ ready.hostInputs = [] := ⟨rfl, rfl⟩

/-- Also for `NoStepStops` and `ParametersNeverChange`. -/
theorem witness_EveryStepKeepsTheInvariant :
    Machine.Inv (sending .done) ∧ step (sending .done) = .next (answer (step (sending .done))) := ⟨inv_sending _, rfl⟩

theorem witness_TraceOnlyGrows :
    (sending .done).rstAsserted = false ∧ step (sending .done) = .next (answer (step (sending .done))) := ⟨rfl, rfl⟩

/-- Also for the second case of `ConfigurationRegistersChangeOnlyInConstruct`. -/
theorem witness_OnlyConstructMakesADriver :
    let s : State := { afterReset with cfgAnswers := [.ok], hostInputs := [.command .whole 0x0100500000000000] }
    let t := answer (step s)
    s.drv = .unbuilt ∧ s.rstAsserted = false ∧ s.ctrl = .idle ∧ step s = .next t ∧ t.drv = .ready := ⟨rfl, rfl, rfl, rfl, by decide⟩

theorem witness_RaiseEffect :
    afterReset.params.driverSurvivesError = true ∧
    ({ afterReset with params := { params8 with driverSurvivesError := false } } : State).params.driverSurvivesError = false ∧
    ∀ code, Err.capacity ≠ .config code := ⟨rfl, rfl, by intro c h; cases h⟩

end Sys2Proof.Tests
end

section
/-! SUPPORT. The two paces of a command (log 1): the single steps of a build, of a transmission and of a fade reach what the
command run whole answers. -/

namespace Sys2Proof.Machine

open Sys2Proof.Config

/-! ## Runs of steps -/

/-- Some number of steps from `s` answers exactly `o`. -/
def Leads (s : State) (o : Host.Outcome State Fault Refusal) : Prop := ∃ k, Host.Core.run Sys2Proof.core k s = o

theorem run_succ_next {j : Nat} {s u : State} (h : Host.Core.run Sys2Proof.core (j + 1) s = .next u) :
    ∃ v, step s = .next v ∧ Host.Core.run Sys2Proof.core j v = .next u := by
  cases hs : Sys2Proof.core.step s with
  | next v => exact ⟨v, hs, run_succ j hs ▸ h⟩
  | fault f => simp only [Host.Core.run, hs] at h; cases h
  | refused f => simp only [Host.Core.run, hs] at h; cases h

theorem run_add {j : Nat} {s u : State} (h : Host.Core.run Sys2Proof.core j s = .next u) (k : Nat) :
    Host.Core.run Sys2Proof.core (j + k) s = Host.Core.run Sys2Proof.core k u := by
  induction j generalizing s with
  | zero => cases h; rw [Nat.zero_add]
  | succ j ih =>
    obtain ⟨v, hs, hv⟩ := run_succ_next h
    rw [Nat.succ_add, run_succ (j + k) hs, ih hv]

theorem run_one (s : State) : Host.Core.run Sys2Proof.core 1 s = step s := run_then (k := 0) rfl

theorem Leads.refl (s : State) : Leads s (.next s) := ⟨0, rfl⟩

theorem Leads.of_step {s : State} {o : Host.Outcome State Fault Refusal} (h : step s = o) : Leads s o := ⟨1, (run_one s).trans h⟩

theorem Leads.trans {s u : State} {o : Host.Outcome State Fault Refusal} (h : Leads s (.next u)) (hu : Leads u o) :
    Leads s o := by
  obtain ⟨j, hj⟩ := h
  obtain ⟨k, hk⟩ := hu
  exact ⟨j + k, (run_add hj k).trans hk⟩

/-! ## A busy block that goes on by itself (R270) -/

/-- The host lets the block work, and no response is being delivered: a busy block goes on with what it is doing. -/
structure LeftAlone (s : State) : Prop where
  undisturbed : Undisturbed s
  silent : s.rspValid = false

theorem LeftAlone.congr {s t : State} (h : LeftAlone s) (hi : t.hostInputs = s.hostInputs) (hv : t.rspValid = s.rspValid) :
    LeftAlone t where
  undisturbed := by rw [Undisturbed, hi]; exact h.undisturbed
  silent := hv.trans h.silent

theorem LeftAlone.step_eq {s : State} (h : LeftAlone s) (hc : s.ctrl ≠ .idle) : step s = advance s :=
  step_undisturbed h.undisturbed hc h.silent

theorem LeftAlone.step_build {s : State} (h : LeftAlone s) (hc : s.ctrl = .build) : step s = buildStep s :=
  (h.step_eq (by rw [hc]; decide)).trans (advance_build hc)

theorem LeftAlone.step_tx {s : State} (h : LeftAlone s) (hc : s.ctrl = .tx) : step s = serializerStep s :=
  (h.step_eq (by rw [hc]; decide)).trans (advance_tx hc)

theorem LeftAlone.step_delay {s : State} (h : LeftAlone s) (hc : s.ctrl = .delay) : step s = delayStep s :=
  (h.step_eq (by rw [hc]; decide)).trans (advance_delay hc)

theorem Emitted.leftAlone {s u : State} {ws : List Seg} (h : Emitted s ws u) (hs : LeftAlone s) : LeftAlone u :=
  hs.congr (by rw [h]) (by rw [h])

theorem Emitted.sending {s u : State} {ws : List Seg} (h : Emitted s ws u) (hs : Sending s) : Sending u := by
  rw [h]; exact hs

/-! ## The transmission in single steps (R203) -/

theorem serializerStep_end {s : State} (hs : Sending s) (h : s.flen.toNat ≤ s.rdptr.toNat) :
    serializerStep s = resume (settle s) := by
  have hf : s.fetchEntry = .endOfSlice := by rw [State.fetchEntry, if_pos hs.2, if_pos h]
  rw [serializerStep, hf]

theorem serializerStep_failed {s : State} {f : Fault} (hs : Sending s) (h : s.rdptr.toNat < s.flen.toNat)
    (hr : s.readFb s.rdptr.toNat = .error f) : serializerStep s = .fault f := by
  have hf : s.fetchEntry = .failed f := by rw [State.fetchEntry, if_pos hs.2, if_neg (by omega), hr]
  rw [serializerStep, hf]

theorem serializerStep_word {s : State} {w : PulseWord} (hs : Sending s) (h : s.rdptr.toNat < s.flen.toNat)
    (hr : s.readFb s.rdptr.toNat = .ok w) : serializerStep s = execEntry (PulseCode.ofWord w) s :=
  serializerStep_entry (by rw [State.fetchEntry, if_pos hs.2, if_neg (by omega), hr])

/-- The serializer's single steps reach what the atomic transmission answers, in at most one step an entry and one more. -/
theorem run_transmit (n : Nat) {s : State} (ha : LeftAlone s) (hs : Sending s) (hn : s.rdptr.toNat + n = s.flen.toNat) :
    ∃ k, k ≤ n + 1 ∧ Host.Core.run Sys2Proof.core k s = resume (transmit n s) := by
  induction n generalizing s with
  | zero =>
    exact ⟨1, le_rfl, by rw [run_one, ha.step_tx hs.1, serializerStep_end hs (by omega), transmit]⟩
  | succ n ih =>
    have hstep := ha.step_tx hs.1
    rw [transmit]
    cases hr : s.readFb s.rdptr.toNat with
    | error f => exact ⟨1, by omega, by rw [run_one, hstep, serializerStep_failed hs (by omega) hr]; rfl⟩
    | ok w =>
      rw [serializerStep_word hs (by omega) hr, execEntry, if_pos hs.2] at hstep
      obtain ⟨u, hu, -⟩ | ⟨u, hu, -, he, hp, -⟩ | ⟨u, -, hu, -⟩ := serializeEntry_cases (PulseCode.ofWord w) s
      · simp only [hu] at hstep ⊢
        exact ⟨1, by omega, by rw [run_one, hstep]⟩
      · simp only [hu] at hstep ⊢
        have hf : u.flen = s.flen := by rw [he]
        have hlt := s.flen.isLt
        have hp1 : u.rdptr.toNat = s.rdptr.toNat + 1 := by
          rw [hp, BitVec.toNat_add, show (1 : BitVec 21).toNat = 1 from rfl]; omega
        obtain ⟨k, hk, hrun⟩ := ih (he.leftAlone ha) (he.sending hs) (by rw [hp1, hf]; omega)
        exact ⟨k + 1, by omega, by rw [run_succ k hstep, hrun]⟩
      · simp only [hu] at hstep ⊢
        exact ⟨1, by omega, by rw [run_one, hstep]⟩

/-! ## WRITE_BODY in single steps (R195, R197) -/

theorem writeBody_capacity {b : State} (h : b.params.maxLeds ≤ b.count.toNat + 1) :
    writeBody b = .failed .capacity { b with ctrl := .build } := by
  rw [writeBody, buildBody_capacity h]

theorem writeBody_built {b : State} (h : b.count.toNat + 2 ≤ b.params.maxLeds) : writeBody b = dispatch (builtFrom b) := by
  rw [writeBody, buildBody_ok h]

/-- The single steps of WRITE_BODY, from the controller's entry into `BUILD`, reach what it returns to its caller. -/
theorem leads_writeBody {b : State} (ha : LeftAlone b) (hc : b.ctrl = .build) : Leads b (resume (writeBody b)) := by
  have hstep := ha.step_build hc
  rw [buildStep] at hstep
  by_cases hcap : b.count.toNat + 2 ≤ b.params.maxLeds
  · rw [buildBody_ok hcap] at hstep
    rw [writeBody_built hcap, dispatch]
    cases hb : (builtFrom b).beginAt 0 with
    | err e =>
      simp only [beginTx_err hb] at hstep ⊢
      exact .of_step hstep
    | ok =>
      simp only [beginTx_ok hb] at hstep ⊢
      obtain ⟨k, -, hk⟩ := run_transmit (s := started (builtFrom b)) (builtFrom b).flen.toNat (ha.congr rfl rfl)
        ⟨rfl, rfl, rfl⟩ (Nat.zero_add _)
      exact (Leads.of_step hstep).trans ⟨k, hk⟩
  · rw [buildBody_capacity (by omega)] at hstep
    rw [writeBody_capacity (by omega)]
    exact .of_step hstep

/-- What a completed WRITE_BODY leaves as it was, of what decides how the command goes on. -/
structure SameCourse (b t : State) : Prop where
  inFade : t.inFade = b.inFade
  fch : t.fch = b.fch
  fstep : t.fstep = b.fstep
  hostInputs : t.hostInputs = b.hostInputs
  rspValid : t.rspValid = b.rspValid

theorem writeBody_sameCourse {b t : State} (h : writeBody b = .done t) : SameCourse b t := by
  by_cases hcap : b.count.toNat + 2 ≤ b.params.maxLeds
  · rw [writeBody_built hcap] at h
    cases hb : (builtFrom b).beginAt 0 with
    | err e => rw [dispatch, beginTx_err hb] at h; cases h
    | ok =>
      obtain ⟨u, hu, he, -⟩ := dispatch_begun (builtFrom_holds b) hb
      rw [hu] at h
      rcases ho : u.hwOutcome with _ | ⟨e, m⟩ | m
      · rw [settle_done ho] at h
        cases h
        constructor <;> (rw [he]; rfl)
      · rw [settle_err ho] at h; cases h
      · rw [settle_never ho] at h; cases h
  · rw [writeBody_capacity (by omega)] at h; cases h

/-- Outside a fade a completed WRITE_BODY responds, so its command ends as SEND and WRITE end (R195 step 5). -/
theorem resume_writeBody {b : State} (h : b.inFade = false) : resume (writeBody b) = conclude (writeBody b) := by
  cases hw : writeBody b with
  | done t => rw [resume, (writeBody_sameCourse hw).inFade, h]; rfl
  | failed e t => rfl
  | hung t => rfl
  | faulted f => rfl

/-- SEND and WRITE in single steps, from the state they build from (R191, R194). -/
theorem leads_conclude_writeBody {b : State} (ha : LeftAlone b) (hf : b.inFade = false) :
    Leads (enterBuild false b) (conclude (writeBody b)) := by
  have hb : writeBody (enterBuild false b) = writeBody b := hf ▸ writeBody_enterBuild b
  rw [← hb, ← resume_writeBody rfl]
  exact leads_writeBody (ha.congr rfl rfl) rfl

/-! ## The fade in single steps (R230, R235) -/

/-- Step `j` of a fade: the channels in the order blue, green, red, 510 steps each (R230, R234). -/
theorem fadeSchedule_getElem? (j : Nat) :
    fadeSchedule[j]? =
      if j < 510 then some (.blue, BitVec.ofNat 9 j)
      else if j < 1020 then some (.green, BitVec.ofNat 9 (j - 510))
      else if j < 1530 then some (.red, BitVec.ofNat 9 (j - 1020))
      else none := by
  simp only [fadeSchedule, FADE_STEPS, List.flatMap_cons, List.flatMap_nil, List.append_nil, List.getElem?_append,
    List.length_map, List.length_range, List.getElem?_map]
  by_cases hb : j < 510
  · simp [hb]
  by_cases hg : j < 1020
  · simp [hb, hg, show j - 510 < 510 by omega]
  by_cases hr : j < 1530
  · simp [hb, hg, hr, show ¬ j - 510 < 510 by omega, show j - 1020 < 510 by omega, Nat.sub_sub]
  · simp [hb, hg, hr, show ¬ j - 510 < 510 by omega, show 510 ≤ j - 510 - 510 by omega]

theorem fadeSchedule_eq_cons : fadeSchedule = (.blue, 0) :: fadeSchedule.tail :=
  List.eq_cons_of_mem_head? (by rw [List.head?_eq_getElem?, fadeSchedule_getElem?]; rfl)

theorem nextFadeStep_ofNat (c : FadeChannel) {i : Nat} (h : i < 509) :
    nextFadeStep c (BitVec.ofNat 9 i) = some (c, BitVec.ofNat 9 (i + 1)) := by
  have hi : (BitVec.ofNat 9 i).toNat < FADE_STEPS - 1 := by rw [BitVec.toNat_ofNat, FADE_STEPS]; omega
  unfold nextFadeStep
  rw [if_pos hi, BitVec.ofNat_add]
  rfl

/-- The controller goes from one step of a fade to the next one of the schedule (R230, R234). -/
theorem nextFadeStep_schedule {j : Nat} {c : FadeChannel} {k : BitVec 9} (h : fadeSchedule[j]? = some (c, k)) :
    nextFadeStep c k = fadeSchedule[j + 1]? := by
  rw [fadeSchedule_getElem?] at h ⊢
  split_ifs at h with hb hg hr <;> cases h
  · by_cases hj : j = 509
    · subst hj; rfl
    · rw [nextFadeStep_ofNat _ (by omega), if_pos (by omega)]
  · by_cases hj : j = 1019
    · subst hj; rfl
    · rw [nextFadeStep_ofNat _ (by omega), if_neg (by omega), if_pos (by omega), Nat.sub_add_comm (by omega)]
  · by_cases hj : j = 1529
    · subst hj; rfl
    · rw [nextFadeStep_ofNat _ (by omega), if_neg (by omega), if_neg (by omega), if_pos (by omega), Nat.sub_add_comm (by omega)]

theorem nextFadeStep_head {steps : List (FadeChannel × BitVec 9)} {c : FadeChannel} {k : BitVec 9}
    (h : (c, k) :: steps <:+ fadeSchedule) : nextFadeStep c k = steps.head? := by
  obtain ⟨before, hb⟩ := h
  have hj : fadeSchedule[before.length]? = some (c, k) := by simp [← hb]
  rw [nextFadeStep_schedule hj, ← hb, List.getElem?_append_right (by omega), List.head?_eq_getElem?]
  simp

theorem delayStep_last {s : State} (h : nextFadeStep s.fch s.fstep = none) : delayStep s = .next (respondOk (runDelay s)) := by
  rw [delayStep, h]

theorem delayStep_next {s : State} {c : FadeChannel} {k : BitVec 9} (h : nextFadeStep s.fch s.fstep = some (c, k)) :
    delayStep s = .next (enterBuild true (fadePaint c k (runDelay s))) := by
  rw [delayStep, h]

/-- One step of a fade in single steps, up to its delay: a write that fails or hangs ends the loop (R237), a completed one delays
before the rest of it. -/
theorem leads_fadeStep {c : FadeChannel} {k : BitVec 9} {steps : List (FadeChannel × BitVec 9)} {s : State} (ha : LeftAlone s)
    (hf : s.inFade = true)
    (hrest : ∀ d, LeftAlone d → d.ctrl = .delay → d.inFade = true → d.fch = c → d.fstep = k →
      Leads d (conclude (fadeLoop steps (runDelay d)))) :
    Leads (enterBuild true (fadePaint c k s)) (conclude (fadeLoop ((c, k) :: steps) s)) := by
  have hb : writeBody (enterBuild true (fadePaint c k s)) = writeBody (fadePaint c k s) := hf ▸ writeBody_enterBuild _
  have hw := leads_writeBody (b := enterBuild true (fadePaint c k s)) (ha.congr rfl rfl) rfl
  rw [hb] at hw
  rw [fadeLoop, fadeStep]
  cases hd : writeBody (fadePaint c k s) with
  | done t =>
    obtain ⟨hfade, hch, hk, hi, hv⟩ := writeBody_sameCourse hd
    have ht : t.inFade = true := hfade.trans hf
    rw [hd, resume, if_pos ht] at hw
    exact hw.trans (hrest (enterDelay t) (ha.congr hi hv) rfl ht hch hk)
  | failed e t => rw [hd] at hw; exact hw
  | hung t => rw [hd] at hw; exact hw
  | faulted f => rw [hd] at hw; exact hw

/-- From the build of any step of the schedule, the single steps of a fade reach what the rest of its loop concludes. -/
theorem leads_fadeLoop (steps : List (FadeChannel × BitVec 9)) {c : FadeChannel} {k : BitVec 9} {s : State}
    (hl : (c, k) :: steps <:+ fadeSchedule) (ha : LeftAlone s) (hf : s.inFade = true) :
    Leads (enterBuild true (fadePaint c k s)) (conclude (fadeLoop ((c, k) :: steps) s)) := by
  induction steps generalizing c k s with
  | nil =>
    refine leads_fadeStep ha hf fun d hd hc _ hch hk => ?_
    have hlast : nextFadeStep d.fch d.fstep = none := by rw [hch, hk]; exact nextFadeStep_head hl
    exact .of_step ((hd.step_delay hc).trans (delayStep_last hlast))
  | cons ck rest ih =>
    refine leads_fadeStep ha hf fun d hd hc hdf hch hk => ?_
    have hnext : nextFadeStep d.fch d.fstep = some ck := by rw [hch, hk]; exact nextFadeStep_head hl
    have hpaint := Leads.of_step ((hd.step_delay hc).trans (delayStep_next hnext))
    exact hpaint.trans (ih ((List.suffix_cons _ _).trans hl) (hd.congr rfl rfl) hdf)

/-! ## The commands (log 1) -/

/-- On a block with a driver, the start of a command leads to what its `exec` answers. -/
theorem start_leads_exec {i : Instr} {s : State} (hr : s.drv = .ready) (ha : LeftAlone s) (hf : s.inFade = false)
    (hi : i.nbits = 64) : ∃ u, start i s = .next u ∧ Leads u (exec i s) := by
  cases i with
  | construct f p => exact ⟨construct f p s, rfl, .refl _⟩
  | send c b n => exact ⟨_, start_send_ready hr, exec_send_ready hr ▸ leads_conclude_writeBody (ha.congr rfl rfl) hf⟩
  | write c n => exact ⟨_, start_write_ready hr, exec_write_ready hr ▸ leads_conclude_writeBody (ha.congr rfl rfl) hf⟩
  | fade c n =>
    refine ⟨_, start_fade_ready hr, ?_⟩
    rw [exec_fade_ready hr, fadeSchedule_eq_cons]
    exact leads_fadeLoop _ ⟨[], fadeSchedule_eq_cons.symm⟩ (ha.congr rfl rfl) rfl
  | one => cases hi
  | zero => cases hi
  | term => cases hi

/-- Settles O60: without a driver the start is `exec` itself; with one, the start is followed step by step through the build, the
transmission and, for a fade, each delay, and the serializer's steps agree with `transmit` by induction on the entries left. -/
theorem singleStepsReachWhatExecAnswers : Obligations.SingleStepsReachWhatExecAnswers := by
  intro s t i hinv hidle hv hu hi hexec
  cases hd : s.drv with
  | unbuilt => exact ⟨t, 0, (start_unbuilt hd).trans hexec, rfl⟩
  | ready =>
    obtain ⟨-, -, hf⟩ := hinv.idle_quiet hidle
    obtain ⟨u, hstart, k, hk⟩ := start_leads_exec hd ⟨hu, hv⟩ hf hi
    exact ⟨u, k, hstart, hk.trans hexec⟩

end Sys2Proof.Machine
end

section
/-! SUPPORT. What the parts of a step leave, case by case, from any state: the endings of WRITE_BODY and of a fade, CONSTRUCT,
and which of the answers of a part the whole command or step hands on. -/

namespace Sys2Proof.Machine

open Sys2Proof.Config

/-! ## What a part of a command leaves -/

/-- The part does not fault, and the state it leaves meets the predicate of its ending. -/
inductive Flow.Leaves (D F H : State → Prop) : Flow → Prop
  | done {s : State} (h : D s) : Flow.Leaves D F H (.done s)
  | failed {e : Err} {s : State} (h : F s) : Flow.Leaves D F H (.failed e s)
  | hung {s : State} (h : H s) : Flow.Leaves D F H (.hung s)

/-- The outcome is a next state, and it meets the predicate. -/
def Answers (P : State → Prop) (o : Host.Outcome State Fault Refusal) : Prop := ∃ t, o = .next t ∧ P t

theorem Answers.next {P : State → Prop} {t : State} (h : P t) : Answers P (.next t) := ⟨t, rfl, h⟩

theorem Answers.runs {P : State → Prop} {o : Host.Outcome State Fault Refusal} (h : Answers P o) : Runs o := by
  obtain ⟨t, ht, -⟩ := h
  exact ⟨t, ht⟩

theorem Answers.of_next {P : State → Prop} {o : Host.Outcome State Fault Refusal} {t : State} (h : Answers P o)
    (ho : o = .next t) : P t := by
  obtain ⟨u, hu, hP⟩ := h
  cases hu.symm.trans ho
  exact hP

section
variable {D F H P : State → Prop} {f : Flow}

theorem conclude_answers (hf : f.Leaves D F H) (hdone : ∀ s, D s → P (respondOk s)) (hfail : ∀ e s, F s → P (raise e s))
    (hhung : ∀ s, H s → P s) : Answers P (conclude f) := by
  cases hf with
  | done h => exact .next (hdone _ h)
  | failed h => exact .next (hfail _ _ h)
  | hung h => exact .next (hhung _ h)

theorem resume_answers (hf : f.Leaves D F H) (hdelay : ∀ s, D s → s.inFade = true → P (enterDelay s))
    (hdone : ∀ s, D s → P (respondOk s)) (hfail : ∀ e s, F s → P (raise e s)) (hhung : ∀ s, H s → P s) :
    Answers P (resume f) := by
  cases hf with
  | done h =>
    rw [resume]
    split
    · rename_i hfade; exact .next (hdelay _ h hfade)
    · exact .next (hdone _ h)
  | failed h => exact .next (hfail _ _ h)
  | hung h => exact .next (hhung _ h)

/-- A fade step is a write and, when that completes, the delay (R235, R237). -/
theorem fadeStep_leaves {c : FadeChannel} {k : BitVec 9} {s : State} (h : (writeBody (fadePaint c k s)).Leaves D F H)
    (hdelay : ∀ t, D t → D (runDelay (enterDelay t))) : (fadeStep c k s).Leaves D F H := by
  rw [fadeStep]
  generalize writeBody (fadePaint c k s) = f at h ⊢
  cases h with
  | done h => exact .done (hdelay _ h)
  | failed h => exact .failed h
  | hung h => exact .hung h

/-- What every step of the loop keeps, the loop keeps (R230). -/
theorem fadeLoop_leaves {steps : List (FadeChannel × BitVec 9)} {s : State} (h : D s)
    (hstep : ∀ ck ∈ steps, ∀ s, D s → (fadeStep ck.1 ck.2 s).Leaves D F H) : (fadeLoop steps s).Leaves D F H := by
  induction steps generalizing s with
  | nil => exact .done h
  | cons ck rest ih =>
    have hfirst := hstep ck List.mem_cons_self s h
    rw [fadeLoop]
    generalize fadeStep ck.1 ck.2 s = f at hfirst ⊢
    cases hfirst with
    | done h => exact ih h fun a ha => hstep a (List.mem_cons_of_mem _ ha)
    | failed h => exact .failed h
    | hung h => exact .hung h

/-- What a settled transmission leaves, from what holds when the serializer has stopped (R197, R201). -/
theorem settle_leaves {u : State} (hdone : D (endTx { u with out := u.out ++ [Event.txEnd] })) (hfail : F (endTx u))
    (hhung : H u) : (settle u).Leaves D F H := by
  rcases ho : u.hwOutcome with _ | ⟨e, m⟩ | m
  · rw [settle_done ho]; exact .done hdone
  · rw [settle_err ho]; exact .failed hfail
  · rw [settle_never ho]; exact .hung hhung

end

/-! ## WRITE_BODY (R195) -/

/-- The state after a begin that the hardware turned away (R199). -/
def beginRefused (s : State) : State :=
  { s with ctrl := .tx, ch := .idle, beginAnswers := s.beginAnswers.tail, beginDraws := s.beginDraws + 1 }

/-- Everything WRITE_BODY can do: fail the capacity check, be turned away by the hardware, or transmit the frame and settle. -/
theorem writeBody_cases (b : State) :
    writeBody b = .failed .capacity (enterBuild b.inFade b) ∨
    (b.count.toNat + 2 ≤ b.params.maxLeds ∧
      ((∃ e, writeBody b = .failed (.hardware e) (beginRefused (builtFrom b))) ∨
        ∃ u ws, writeBody b = settle u ∧ Emitted (started (builtFrom b)) ws u ∧ u.rdptr.toNat ≤ u.flen.toNat)) := by
  by_cases hcap : b.count.toNat + 2 ≤ b.params.maxLeds
  · refine .inr ⟨hcap, ?_⟩
    rw [writeBody_built hcap]
    cases hb : (builtFrom b).beginAt 0 with
    | err e => exact .inl ⟨e, by rw [dispatch, beginTx_err hb]; rfl⟩
    | ok =>
      obtain ⟨u, hu, he, hle, -⟩ := dispatch_begun (builtFrom_holds b) hb
      exact .inr ⟨u, _, hu, he, by rw [show u.flen = (builtFrom b).flen by rw [he]; rfl]; exact hle⟩
  · exact .inl (writeBody_capacity (by omega))

/-- Everything a single step from `CTRL = BUILD` can do, the same three. -/
theorem buildStep_cases (b : State) :
    buildStep b = .next (raise .capacity (enterBuild b.inFade b)) ∨
    (b.count.toNat + 2 ≤ b.params.maxLeds ∧
      ((∃ e, buildStep b = .next (raise (.hardware e) (beginRefused (builtFrom b)))) ∨
        buildStep b = .next (started (builtFrom b)))) := by
  rw [buildStep]
  by_cases hcap : b.count.toNat + 2 ≤ b.params.maxLeds
  · refine .inr ⟨hcap, ?_⟩
    rw [buildBody_ok hcap]
    cases hb : (builtFrom b).beginAt 0 with
    | err e => refine .inl ⟨e, ?_⟩; simp only [beginTx_err hb]; rfl
    | ok => refine .inr ?_; simp only [beginTx_ok hb]
  · rw [buildBody_capacity (by omega)]; exact .inl rfl

/-! ## FADE (R230) -/

/-- The state a fade's loop starts from, on a block that is ready: the operands latched, `FC` loaded from the target (R231). -/
def fadeStart (c : Color) (n : BitVec 16) (s : State) : State :=
  { s.latchColor c n with fc := c, fch := .blue, fstep := 0, inFade := true }

theorem exec_fade_start {c : Color} {n : BitVec 16} {s : State} (h : s.drv = .ready) :
    exec (.fade c n) s = conclude (fadeLoop fadeSchedule (fadeStart c n s)) := exec_fade_ready h

theorem start_fade_start {c : Color} {n : BitVec 16} {s : State} (h : s.drv = .ready) :
    start (.fade c n) s = .next (enterBuild true (fadePaint .blue 0 (fadeStart c n s))) := start_fade_ready h

/-! ## CONSTRUCT (R185) -/

/-- The state CONSTRUCT has when the configuration has been answered: the line driven high, the operands latched. -/
def configured (f : BitVec 16) (p : Byte) (s : State) : State :=
  ({ s with line := .driven true, out := s.out ++ [Event.drive true] }.latchConstruct f p).cfgAsked

/-- Everything CONSTRUCT can do: build a driver with a divider of 1 to 255 and answer OK, or raise `ConfigError` (R187). -/
theorem construct_cases (f : BitVec 16) (p : Byte) (s : State) :
    (dividerValid (tickDivider f) = true ∧
      construct f p s =
        respondOk { configured f p s with tickDiv := BitVec.ofNat 8 (tickDivider f), drv := .ready }) ∨
    ∃ e, construct f p s = raise (.config e) { configured f p s with tickDiv := 0, drv := .unbuilt } := by
  rw [construct]
  simp only
  split
  · rename_i hok
    refine .inl ⟨?_, rfl⟩
    rw [State.cfgResult] at hok
    split at hok
    · cases hok
    · by_contra hv
      rw [if_neg hv] at hok
      cases hok
  · rename_i e _; exact .inr ⟨e, rfl⟩

theorem driverAfter_eq_ready {s : State} {e : Err} (h : driverAfter s e = .ready) : s.drv = .ready := by
  cases e with
  | capacity => rw [driverAfter] at h; split at h <;> [exact h; cases h]
  | hardware e => rw [driverAfter] at h; split at h <;> [exact h; cases h]
  | config e => cases h
  | illegal => exact h
  | notReady => exact h

/-! ## The serializer and the command port -/

/-- A waveform that has reached the line, as one update of the state: only the serializer's registers are any. -/
theorem Emitted.exists_eq {s u : State} {ws : List Seg} (h : Emitted s ws u) :
    ∃ rd ph tc pr, u =
      { s with
        out := s.out ++ segEvents ws
        line := lineAfter ws s.line
        hwOutcome := spend (totalTicks ws) s.hwOutcome
        rdptr := rd
        phase := ph
        tickcnt := tc
        presc := pr } := ⟨u.rdptr, u.phase, u.tickcnt, u.presc, h⟩

theorem execEntry_runs (p : PulseCode) (s : State) : Runs (execEntry p s) := by
  rw [execEntry]
  split
  · cases serializeEntry p s with
    | running u => exact ⟨u, rfl⟩
    | stopped u => exact resume_settle_runs u
    | cut u => exact resume_settle_runs u
  · exact ⟨s, rfl⟩

/-- Without a pending transaction the serializer does nothing (R203). -/
theorem serializerStep_quiet {s : State} (h : ¬ (s.ch = .transmitting ∧ s.txn.isSome = true)) : serializerStep s = .next s := by
  have hf : s.fetchEntry = .none := by rw [State.fetchEntry, if_neg h]
  rw [serializerStep, hf]

/-- The command port carries commands only (R92, R108). -/
theorem decodeCommand_nbits {w : CmdWord} {i : Instr} (h : decodeCommand w = .ok i) : i.nbits = 64 := by
  rw [decodeCommand, decodeFields] at h
  split at h
  · cases h
  · split_ifs at h <;> cases h <;> rfl

theorem runCommand_illegal {pace : Pace} {w : CmdWord} {e : IllegalWord} (h : decodeCommand w = .error e) (s : State) :
    runCommand pace w s = .next (raise .illegal s) := by
  rw [runCommand, h]

theorem runCommand_whole {w : CmdWord} {i : Instr} (h : decodeCommand w = .ok i) (s : State) :
    runCommand .whole w s = exec i s := by
  rw [runCommand, h]

theorem runCommand_stepwise {w : CmdWord} {i : Instr} (h : decodeCommand w = .ok i) (s : State) :
    runCommand .stepwise w s = start i s := by
  rw [runCommand, h]

/-- Which part of a step runs: `rst`, an accepted word, or the controller with what it was doing, on the state with no response
valid (R29, R270, R290). -/
theorem step_dispatch (s : State) :
    (∃ rest, s.hostInputs = .reset :: rest ∧ step s = .next (s.applyReset rest)) ∨
    (∃ pace w rest, s.hostInputs = .command pace w :: rest ∧ s.ctrl = .idle ∧ step s = runCommand pace w (s.accept rest)) ∨
    ∃ left, step s = advance (s.accept left) := by
  cases hq : s.hostInputs with
  | nil => exact .inr (.inr ⟨[], by rw [step_nothing hq, State.accept, ← hq]; rfl⟩)
  | cons a r =>
    cases a with
    | command g w =>
      by_cases hc : s.ctrl = .idle
      · exact .inr (.inl ⟨g, w, r, rfl, hc, step_accepted hq hc⟩)
      · exact .inr (.inr ⟨s.hostInputs, step_held hq hc⟩)
    | pause => exact .inr (.inr ⟨r, step_pause hq⟩)
    | reset => exact .inl ⟨r, rfl, step_reset hq⟩

/-- Every step of the schedule, and every one the controller goes on to, is below 510 (R26, R230). -/
theorem fadeSchedule_step_lt {ck : FadeChannel × BitVec 9} (h : ck ∈ fadeSchedule) : ck.2.toNat < FADE_STEPS := by
  obtain ⟨j, hj⟩ := List.mem_iff_getElem?.mp h
  rw [fadeSchedule_getElem?] at hj
  split_ifs at hj <;> cases hj <;> (rw [BitVec.toNat_ofNat, FADE_STEPS]; omega)

theorem nextFadeStep_step_lt {c d : FadeChannel} {k l : BitVec 9} (h : nextFadeStep c k = some (d, l)) :
    l.toNat < FADE_STEPS := by
  unfold nextFadeStep at h
  split at h
  · rename_i hk
    cases h
    rw [FADE_STEPS] at hk
    rw [BitVec.toNat_add, show (1 : BitVec 9).toNat = 1 from rfl, FADE_STEPS]
    omega
  · cases c <;> cases h <;> decide

end Sys2Proof.Machine
end

section
/-! SUPPORT. What every step leaves as it was, from any state, and with it the statements on the parameters, the trace, the driver
and the configuration registers. -/

namespace Sys2Proof.Machine

open Sys2Proof.Config

/-- What nothing but CONSTRUCT and `rst` disturbs: the parameters and the three configuration registers stand, the trace is only
added to, and no driver appears (R33, R40, R44, R45). -/
structure Steady (s t : State) : Prop where
  params : t.params = s.params
  tickDiv : t.tickDiv = s.tickDiv
  pin : t.pin = s.pin
  freqMhz : t.freqMhz = s.freqMhz
  out : s.out <+: t.out
  drv : t.drv = .ready → s.drv = .ready

/-! ## The parts of a step are steady -/

theorem Steady.refl (s : State) : Steady s s := ⟨rfl, rfl, rfl, rfl, ⟨[], List.append_nil _⟩, id⟩

theorem Steady.trans {s t u : State} (h : Steady s t) (k : Steady t u) : Steady s u where
  params := k.params.trans h.params
  tickDiv := k.tickDiv.trans h.tickDiv
  pin := k.pin.trans h.pin
  freqMhz := k.freqMhz.trans h.freqMhz
  out := h.out.trans k.out
  drv := h.drv ∘ k.drv

/-- A change of other registers, the trace at most added to. -/
theorem Steady.of_eq {s t : State} (es : List Event) (hp : t.params = s.params) (ht : t.tickDiv = s.tickDiv) (hn : t.pin = s.pin)
    (hf : t.freqMhz = s.freqMhz) (hd : t.drv = s.drv) (ho : t.out = s.out ++ es) : Steady s t :=
  ⟨hp, ht, hn, hf, ⟨es, ho.symm⟩, fun h => hd ▸ h⟩

/-- A change of other registers, the trace untouched. -/
theorem Steady.of_same_out {s t : State} (hp : t.params = s.params) (ht : t.tickDiv = s.tickDiv) (hn : t.pin = s.pin)
    (hf : t.freqMhz = s.freqMhz) (hd : t.drv = s.drv) (ho : t.out = s.out) : Steady s t :=
  .of_eq [] hp ht hn hf hd (by rw [ho, List.append_nil])

theorem Steady.respondOk (s : State) : Steady s (respondOk s) := .of_same_out rfl rfl rfl rfl rfl rfl

theorem Steady.raise (e : Err) (s : State) : Steady s (raise e s) :=
  ⟨rfl, rfl, rfl, rfl, ⟨[], List.append_nil _⟩, fun h => driverAfter_eq_ready h⟩

theorem Steady.accept (s : State) (r : List HostInput) : Steady s (s.accept r) := .of_same_out rfl rfl rfl rfl rfl rfl

theorem Steady.enterDelay (s : State) : Steady s (enterDelay s) := .of_same_out rfl rfl rfl rfl rfl rfl

theorem Steady.runDelay (s : State) : Steady s (runDelay s) := .of_eq _ rfl rfl rfl rfl rfl rfl

theorem Steady.fadePaint (c : FadeChannel) (k : BitVec 9) (s : State) : Steady s (fadePaint c k s) :=
  .of_same_out rfl rfl rfl rfl rfl rfl

theorem Steady.enterBuild (f : Bool) (s : State) : Steady s (enterBuild f s) := .of_same_out rfl rfl rfl rfl rfl rfl

theorem Steady.beginRefused (b : State) : Steady b (beginRefused (builtFrom b)) := .of_same_out rfl rfl rfl rfl rfl rfl

theorem Steady.started (b : State) : Steady b (started (builtFrom b)) := .of_same_out rfl rfl rfl rfl rfl rfl

theorem Emitted.steady {s u : State} {ws : List Seg} (h : Emitted s ws u) : Steady s u := by
  obtain ⟨rd, ph, tc, pr, rfl⟩ := h.exists_eq
  exact .of_eq _ rfl rfl rfl rfl rfl rfl

section
variable {s : State}

theorem settle_steady {u : State} (h : Steady s u) : (settle u).Leaves (Steady s) (Steady s) (Steady s) :=
  settle_leaves (h.trans (.of_eq _ rfl rfl rfl rfl rfl rfl)) (h.trans (.of_same_out rfl rfl rfl rfl rfl rfl)) h

theorem conclude_steady {f : Flow} (h : f.Leaves (Steady s) (Steady s) (Steady s)) : Answers (Steady s) (conclude f) :=
  conclude_answers h (fun u hu => hu.trans (.respondOk u)) (fun e u hu => hu.trans (.raise e u)) (fun _ hu => hu)

theorem resume_steady {f : Flow} (h : f.Leaves (Steady s) (Steady s) (Steady s)) : Answers (Steady s) (resume f) :=
  resume_answers h (fun u hu _ => hu.trans (.enterDelay u)) (fun u hu => hu.trans (.respondOk u))
    (fun e u hu => hu.trans (.raise e u)) (fun _ hu => hu)

theorem writeBody_steady {b : State} (h : Steady s b) : (writeBody b).Leaves (Steady s) (Steady s) (Steady s) := by
  obtain hf | ⟨-, ⟨e, hf⟩ | ⟨u, ws, hf, he, -⟩⟩ := writeBody_cases b <;> rw [hf]
  · exact .failed (h.trans (.enterBuild _ b))
  · exact .failed (h.trans (.beginRefused b))
  · exact settle_steady (h.trans ((Steady.started b).trans he.steady))

theorem fadeLoop_steady {steps : List (FadeChannel × BitVec 9)} {b : State} (h : Steady s b) :
    (fadeLoop steps b).Leaves (Steady s) (Steady s) (Steady s) :=
  fadeLoop_leaves h fun _ _ u hu =>
    fadeStep_leaves (writeBody_steady (hu.trans (.fadePaint _ _ u))) fun v hv =>
      hv.trans ((Steady.enterDelay v).trans (.runDelay _))

end

theorem buildStep_steady (s : State) : Answers (Steady s) (buildStep s) := by
  obtain h | ⟨-, ⟨e, h⟩ | h⟩ := buildStep_cases s <;> rw [h]
  · exact .next ((Steady.enterBuild _ s).trans (.raise _ _))
  · exact .next ((Steady.beginRefused s).trans (.raise _ _))
  · exact .next (.started s)

theorem delayStep_steady (s : State) : Answers (Steady s) (delayStep s) := by
  cases h : nextFadeStep s.fch s.fstep with
  | none => rw [delayStep_last h]; exact .next ((Steady.runDelay s).trans (.respondOk _))
  | some ck =>
    rw [delayStep_next h]
    exact .next ((Steady.runDelay s).trans ((Steady.fadePaint _ _ _).trans (.enterBuild _ _)))

theorem execEntry_steady {p : PulseCode} {s t : State} (h : execEntry p s = .next t) : Steady s t := by
  obtain ⟨-, rfl⟩ | ⟨-, -, ⟨ws, he, -⟩ | ⟨u, ws, he, -, hr⟩⟩ := execEntry_cases h
  · exact .refl t
  · exact he.steady
  · exact (resume_steady (settle_steady he.steady)).of_next hr

theorem serializerStep_steady {s t : State} (h : serializerStep s = .next t) : Steady s t := by
  cases hf : s.fetchEntry with
  | none => rw [serializerStep, hf] at h; cases h; exact .refl s
  | endOfSlice => rw [serializerStep, hf] at h; exact (resume_steady (settle_steady (.refl s))).of_next h
  | failed f => rw [serializerStep, hf] at h; cases h
  | entry w => rw [serializerStep_entry hf] at h; exact execEntry_steady h

theorem advance_steady {s t : State} (h : advance s = .next t) : Steady s t := by
  cases hc : s.ctrl with
  | idle => rw [advance_idle hc] at h; cases h; exact .refl s
  | build => rw [advance_build hc] at h; exact (buildStep_steady s).of_next h
  | tx => rw [advance_tx hc] at h; exact serializerStep_steady h
  | delay => rw [advance_delay hc] at h; exact (delayStep_steady s).of_next h

/-! ## The commands but CONSTRUCT are steady -/

theorem Steady.latchSend (c : Color) (b : Byte) (n : BitVec 16) (s : State) : Steady s (s.latchSend c b n) :=
  .of_same_out rfl rfl rfl rfl rfl rfl

theorem Steady.latchColor (c : Color) (n : BitVec 16) (s : State) : Steady s (s.latchColor c n) :=
  .of_same_out rfl rfl rfl rfl rfl rfl

theorem Steady.sendBase (c : Color) (b : Byte) (n : BitVec 16) (s : State) : Steady s (sendBase c b n s) :=
  .of_same_out rfl rfl rfl rfl rfl rfl

theorem Steady.writeBase (c : Color) (n : BitVec 16) (s : State) : Steady s (writeBase c n s) :=
  .of_same_out rfl rfl rfl rfl rfl rfl

theorem Steady.fadeStart (c : Color) (n : BitVec 16) (s : State) : Steady s (fadeStart c n s) :=
  .of_same_out rfl rfl rfl rfl rfl rfl

theorem exec_steady {i : Instr} (s : State) (hi : i.nbits = 64) (hc : ∀ f p, i ≠ .construct f p) :
    Answers (Steady s) (exec i s) := by
  cases i with
  | construct f p => exact absurd rfl (hc f p)
  | send c b n =>
    cases hd : s.drv with
    | unbuilt => rw [exec_send_unbuilt hd]; exact .next ((Steady.latchSend c b n s).trans (.raise _ _))
    | ready => rw [exec_send_ready hd]; exact conclude_steady (writeBody_steady (.sendBase c b n s))
  | write c n =>
    cases hd : s.drv with
    | unbuilt => rw [exec_write_unbuilt hd]; exact .next ((Steady.latchColor c n s).trans (.raise _ _))
    | ready => rw [exec_write_ready hd]; exact conclude_steady (writeBody_steady (.writeBase c n s))
  | fade c n =>
    cases hd : s.drv with
    | unbuilt => rw [exec_fade_unbuilt hd]; exact .next ((Steady.latchColor c n s).trans (.raise _ _))
    | ready => rw [exec_fade_start hd]; exact conclude_steady (fadeLoop_steady (.fadeStart c n s))
  | one => cases hi
  | zero => cases hi
  | term => cases hi

theorem start_steady {i : Instr} (s : State) (hi : i.nbits = 64) (hc : ∀ f p, i ≠ .construct f p) :
    Answers (Steady s) (start i s) := by
  cases hd : s.drv with
  | unbuilt => rw [start_unbuilt hd]; exact exec_steady s hi hc
  | ready =>
    cases i with
    | construct f p => exact absurd rfl (hc f p)
    | send c b n => rw [start_send_ready hd]; exact .next ((Steady.sendBase c b n s).trans (.enterBuild _ _))
    | write c n => rw [start_write_ready hd]; exact .next ((Steady.writeBase c n s).trans (.enterBuild _ _))
    | fade c n =>
      rw [start_fade_start hd]
      exact .next ((Steady.fadeStart c n s).trans ((Steady.fadePaint _ _ _).trans (.enterBuild _ _)))
    | one => cases hi
    | zero => cases hi
    | term => cases hi

/-- At either pace, an accepted word is a CONSTRUCT or changes none of what is `Steady`. -/
theorem runCommand_cases {pace : Pace} {w : CmdWord} {s t : State} (h : runCommand pace w s = .next t) :
    (∃ f p, decodeCommand w = .ok (.construct f p) ∧ t = construct f p s) ∨ Steady s t := by
  cases hd : decodeCommand w with
  | error e => rw [runCommand_illegal hd] at h; cases h; exact .inr (.raise _ s)
  | ok i =>
    by_cases hi : ∃ f p, i = .construct f p
    · obtain ⟨f, p, rfl⟩ := hi
      refine .inl ⟨f, p, rfl, ?_⟩
      cases pace with
      | whole => rw [runCommand_whole hd] at h; cases h; rfl
      | stepwise => rw [runCommand_stepwise hd] at h; cases h; rfl
    · have hc : ∀ f p, i ≠ .construct f p := fun f p he => hi ⟨f, p, he⟩
      cases pace with
      | whole => rw [runCommand_whole hd] at h; exact .inr ((exec_steady s (decodeCommand_nbits hd) hc).of_next h)
      | stepwise => rw [runCommand_stepwise hd] at h; exact .inr ((start_steady s (decodeCommand_nbits hd) hc).of_next h)

/-! ## The step -/

/-- Every step is `rst`, or accepts a CONSTRUCT on an idle block, or changes none of what is `Steady`. -/
theorem step_cases {s t : State} (h : step s = .next t) :
    (∃ rest, s.hostInputs = .reset :: rest ∧ t = s.applyReset rest) ∨
    (∃ pace w rest f p, s.hostInputs = .command pace w :: rest ∧ s.ctrl = .idle ∧ decodeCommand w = .ok (.construct f p) ∧
      t = construct f p (s.accept rest)) ∨
    Steady s t := by
  obtain ⟨rest, hq, hs⟩ | ⟨pace, w, rest, hq, hc, hs⟩ | ⟨left, hs⟩ := step_dispatch s <;> rw [hs] at h
  · cases h; exact .inl ⟨rest, hq, rfl⟩
  · obtain ⟨f, p, hd, rfl⟩ | hst := runCommand_cases h
    · exact .inr (.inl ⟨pace, w, rest, f, p, hq, hc, hd, rfl⟩)
    · exact .inr (.inr ((Steady.accept s rest).trans hst))
  · exact .inr (.inr ((Steady.accept s left).trans (advance_steady h)))

theorem rstAsserted_of_reset {s : State} {rest : List HostInput} (h : s.hostInputs = .reset :: rest) : s.rstAsserted = true := by
  rw [State.rstAsserted, h]

theorem construct_params (f : BitVec 16) (p : Byte) (s : State) : (construct f p s).params = s.params := by
  obtain ⟨-, h⟩ | ⟨e, h⟩ := construct_cases f p s <;> rw [h] <;> rfl

theorem construct_out (f : BitVec 16) (p : Byte) (s : State) : (construct f p s).out = s.out ++ [.drive true] := by
  obtain ⟨-, h⟩ | ⟨e, h⟩ := construct_cases f p s <;> rw [h] <;> rfl

/-- A CONSTRUCT that leaves a driver answers OK (R185). -/
theorem construct_ready_status {f : BitVec 16} {p : Byte} {s : State} (hd : (construct f p s).drv = .ready) :
    (construct f p s).status = statusOk := by
  obtain ⟨-, h⟩ | ⟨e, h⟩ := construct_cases f p s <;> rw [h] at hd ⊢
  · exact rspWord_status statusOk 0
  · cases hd

/-- Settles O55: `rst` and CONSTRUCT keep the parameters, and every other step is `Steady`. -/
theorem parametersNeverChange : Obligations.ParametersNeverChange := by
  intro s t h
  obtain ⟨rest, -, rfl⟩ | ⟨pace, w, rest, f, p, -, -, -, rfl⟩ | hst := step_cases h
  · rfl
  · exact construct_params f p _
  · exact hst.params

/-- Settles O56: CONSTRUCT appends the drive of the line, and every other step but `rst` is `Steady`. -/
theorem traceOnlyGrows : Obligations.TraceOnlyGrows := by
  intro s t hr h
  obtain ⟨rest, hq, -⟩ | ⟨pace, w, rest, f, p, -, -, -, rfl⟩ | hst := step_cases h
  · exact absurd (rstAsserted_of_reset hq) (by rw [hr]; decide)
  · exact ⟨_, construct_out f p (s.accept rest)⟩
  · obtain ⟨es, hes⟩ := hst.out
    exact ⟨es, hes.symm⟩

/-- Settles O57: `rst` leaves no driver, a `Steady` step makes none, and a CONSTRUCT that makes one answers OK. -/
theorem onlyConstructMakesADriver : Obligations.OnlyConstructMakesADriver := by
  intro s t hu h hd
  obtain ⟨rest, -, rfl⟩ | ⟨pace, w, rest, f, p, hq, hc, hw, rfl⟩ | hst := step_cases h
  · cases hd
  · exact ⟨pace, w, rest, f, p, hq, hc, hw, construct_ready_status hd⟩
  · cases hu.symm.trans (hst.drv hd)

/-- Settles O58: every step but `rst` and an accepted CONSTRUCT is `Steady`. -/
theorem configurationRegistersChangeOnlyInConstruct : Obligations.ConfigurationRegistersChangeOnlyInConstruct := by
  intro s t hr h
  obtain ⟨rest, hq, -⟩ | ⟨pace, w, rest, f, p, hq, hc, hw, -⟩ | hst := step_cases h
  · exact absurd (rstAsserted_of_reset hq) (by rw [hr]; decide)
  · exact .inr ⟨pace, w, rest, f, p, hq, hc, hw⟩
  · exact .inl ⟨hst.tickDiv, hst.pin, hst.freqMhz⟩

end Sys2Proof.Machine
end

section
/-! SUPPORT. The invariant of the block, part by part: what of it the contents carry, what a command keeps while it is at work, and
that every part of a step keeps it. At the end the statements on the accepted word and on the reset values. -/

namespace Sys2Proof.Machine

open Sys2Proof.Config

/-! ## The parts of the invariant -/

/-- The frame buffer and the frame in it: what `Inv` says of `FB`, `PKT` and `FLEN` (R43 items 1 to 3, R60). -/
structure Stored (s : State) : Prop where
  memory_wf : Memory.wf s.fb = true
  memory_bound : ∀ e ∈ s.fb, e.1 < s.params.bufDepth
  frame : s.flen = 0 ∨ ∃ c n, n < s.params.maxLeds - 1 ∧ HoldsFrame s c n

/-- All that `Inv` says without speaking of the controller, the channel or the transaction. -/
structure Sound (s : State) : Prop extends Stored s where
  divider : s.drv = .ready → s.tickDiv ≠ 0
  fstep_lt : s.fstep.toNat < FADE_STEPS
  status_le : s.status.toNat ≤ 5
  line_driven : s.drv = .ready → s.line ≠ .z

/-- A SEND, WRITE or FADE at work with no transmission pending: before its frame, between two frames, or after its last. -/
structure AtWork (s : State) : Prop extends Sound s where
  ready : s.drv = .ready
  ch_idle : s.ch = .idle
  txn_none : s.txn = none
  silent : s.rspValid = false

theorem Stored.congr {s t : State} (h : Stored s) (hfb : t.fb = s.fb) (hp : t.params = s.params) (hl : t.flen = s.flen)
    (hk : t.pkt = s.pkt) : Stored t where
  memory_wf := by rw [hfb]; exact h.memory_wf
  memory_bound := by rw [hfb, hp]; exact h.memory_bound
  frame := by
    rw [hl, hp]
    exact h.frame.imp_right fun ⟨c, n, hn, hf⟩ => ⟨c, n, hn, hf.congr hl hk hfb⟩

theorem Inv.stored {s : State} (h : Inv s) : Stored s := ⟨h.memory_wf, h.memory_bound, h.frame⟩

theorem Inv.sound {s : State} (h : Inv s) : Sound s := ⟨h.stored, h.divider, h.fstep_lt, h.status_le, h.line_driven⟩

theorem Inv.txn_none {s : State} (h : Inv s) (hc : s.ch = .idle) : s.txn = none := by
  cases ht : s.txn with
  | none => rfl
  | some n => cases hc.symm.trans (h.txn_iff.mp (by rw [ht]; rfl))

theorem Inv.silent {s : State} (h : Inv s) (hc : s.ctrl ≠ .idle) : s.rspValid = false :=
  Bool.eq_false_iff.mpr fun hv => hc (h.rsp_idle hv)

theorem Inv.ch_idle {s : State} (h : Inv s) (hc : s.ctrl ≠ .tx) : s.ch = .idle := by
  cases hch : s.ch with
  | idle => rfl
  | transmitting => exact absurd (h.tx_only hch) hc

theorem Inv.atWork {s : State} (h : Inv s) (hc : s.ctrl ≠ .idle) (hch : s.ch = .idle) : AtWork s :=
  ⟨h.sound, h.busy_ready hc, hch, h.txn_none hch, h.silent hc⟩

/-! ## The controller states of the invariant (R27) -/

theorem Sound.inv_idle {s : State} (h : Sound s) (hc : s.ctrl = .idle) (hch : s.ch = .idle) (ht : s.txn = none)
    (hf : s.inFade = false) : Inv s where
  memory_wf := h.memory_wf
  memory_bound := h.memory_bound
  frame := h.frame
  divider := h.divider
  idle_quiet := fun _ => ⟨hch, ht, hf⟩
  busy_ready := fun hb => absurd hc hb
  txn_iff := by simp [ht, hch]
  tx_only := by simp [hch]
  txn_len := by simp [ht]
  rdptr_le := by simp [hch]
  fstep_lt := h.fstep_lt
  delay_loaded := by simp [hc]
  rsp_idle := fun _ => hc
  status_le := h.status_le
  line_driven := h.line_driven

/-- A command at work is in the invariant in `BUILD`, and in `DELAY` inside a fade with the timer loaded. -/
theorem AtWork.inv_busy {s : State} (h : AtWork s) (hc : s.ctrl ≠ .idle)
    (hd : s.ctrl = .delay → s.inFade = true ∧ s.dly = FADE_DELAY_MS) : Inv s where
  memory_wf := h.memory_wf
  memory_bound := h.memory_bound
  frame := h.frame
  divider := h.divider
  idle_quiet := fun hi => absurd hi hc
  busy_ready := fun _ => h.ready
  txn_iff := by simp [h.txn_none, h.ch_idle]
  tx_only := by simp [h.ch_idle]
  txn_len := by simp [h.txn_none]
  rdptr_le := by simp [h.ch_idle]
  fstep_lt := h.fstep_lt
  delay_loaded := hd
  rsp_idle := by simp [h.silent]
  status_le := h.status_le
  line_driven := h.line_driven

theorem AtWork.enterBuild {s : State} (h : AtWork s) (f : Bool) : AtWork (enterBuild f s) :=
  { h with toStored := h.toStored.congr rfl rfl rfl rfl }

theorem AtWork.enterDelay {s : State} (h : AtWork s) : AtWork (enterDelay s) :=
  { h with toStored := h.toStored.congr rfl rfl rfl rfl }

theorem AtWork.inv_enterBuild {s : State} (h : AtWork s) (f : Bool) : Inv (Machine.enterBuild f s) :=
  (h.enterBuild f).inv_busy (by simp) (by simp)

theorem AtWork.inv_enterDelay {s : State} (h : AtWork s) (hf : s.inFade = true) : Inv (Machine.enterDelay s) :=
  h.enterDelay.inv_busy (by simp) fun _ => ⟨hf, rfl⟩

/-! ## Responding and raising (R99, R257) -/

theorem statusOk_le : statusOk.toNat ≤ 5 := by decide

theorem Err.status_le (e : Err) : e.status.toNat ≤ 5 := by cases e <;> (rw [Err.status]; decide)

theorem Sound.inv_respondOk {s : State} (h : Sound s) (hch : s.ch = .idle) (ht : s.txn = none) : Inv (respondOk s) :=
  Sound.inv_idle
    { toStored := h.toStored.congr rfl rfl rfl rfl
      divider := h.divider
      fstep_lt := h.fstep_lt
      status_le := (congrArg BitVec.toNat (rspWord_status statusOk 0)).trans_le statusOk_le
      line_driven := h.line_driven }
    rfl hch ht rfl

theorem Sound.inv_raise {s : State} (h : Sound s) (e : Err) : Inv (raise e s) :=
  Sound.inv_idle
    { toStored := h.toStored.congr rfl rfl rfl rfl
      divider := fun hd => h.divider (driverAfter_eq_ready hd)
      fstep_lt := h.fstep_lt
      status_le := (congrArg BitVec.toNat (rspWord_status e.status e.detail)).trans_le e.status_le
      line_driven := fun hd => h.line_driven (driverAfter_eq_ready hd) }
    rfl rfl rfl rfl

/-! ## The build and the beginning of a transmission (R168, R197) -/

theorem Stored.builtFrom {b : State} (h : Stored b) (hcap : b.count.toNat + 2 ≤ b.params.maxLeds) : Stored (builtFrom b) where
  memory_wf := builtFrom_wf b h.memory_wf
  memory_bound := by
    intro e he
    obtain he | ⟨-, hlt⟩ := Memory.mem_writeList he
    · exact h.memory_bound e he
    · rw [frameWords_length] at hlt
      show e.1 < b.params.bufDepth
      rw [Params.bufDepth, BITS_PER_LED]
      omega
  frame := .inr ⟨b.scol, b.count.toNat, show _ < b.params.maxLeds - 1 by omega, builtFrom_holds b⟩

theorem Sound.builtFrom {b : State} (h : Sound b) (hcap : b.count.toNat + 2 ≤ b.params.maxLeds) : Sound (builtFrom b) :=
  { h with toStored := h.toStored.builtFrom hcap }

theorem Sound.beginRefused {s : State} (h : Sound s) : Sound (beginRefused s) :=
  { h with toStored := h.toStored.congr rfl rfl rfl rfl }

theorem Sound.enterBuild {s : State} (h : Sound s) (f : Bool) : Sound (enterBuild f s) :=
  { h with toStored := h.toStored.congr rfl rfl rfl rfl }

theorem builtFrom_flen_ne_zero (b : State) : (builtFrom b).flen ≠ 0 := by
  intro h
  have hl := (builtFrom_holds b).length
  rw [h] at hl
  exact Nat.succ_ne_zero _ hl.symm

theorem AtWork.inv_started {b : State} (h : AtWork b) (hcap : b.count.toNat + 2 ≤ b.params.maxLeds) :
    Inv (started (builtFrom b)) := by
  have hs : Stored (started (Machine.builtFrom b)) := (h.toStored.builtFrom hcap).congr rfl rfl rfl rfl
  exact
    { memory_wf := hs.memory_wf
      memory_bound := hs.memory_bound
      frame := hs.frame
      divider := h.divider
      idle_quiet := by intro hc; cases hc
      busy_ready := fun _ => h.ready
      txn_iff := ⟨fun _ => rfl, fun _ => rfl⟩
      tx_only := fun _ => rfl
      txn_len := by intro n hn; cases hn; exact ⟨rfl, builtFrom_flen_ne_zero b⟩
      rdptr_le := fun _ => Nat.zero_le _
      fstep_lt := h.fstep_lt
      delay_loaded := by intro hc; cases hc
      rsp_idle := fun hv => absurd hv (Bool.eq_false_iff.mp h.silent)
      status_le := h.status_le
      line_driven := h.line_driven }

/-! ## The transmission (R203, R204) -/

theorem lineAfter_ne_z (ws : List Seg) {l : Line} (h : l ≠ .z) : lineAfter ws l ≠ .z := by
  unfold lineAfter
  split
  · exact fun hz => by cases hz
  · exact h

/-- Emitting keeps the invariant as long as `RDPTR` stays within the frame. -/
theorem Inv.emitted {s u : State} {ws : List Seg} (h : Inv s) (he : Emitted s ws u)
    (hr : s.ch = .transmitting → u.rdptr.toNat ≤ u.flen.toNat) : Inv u := by
  have hst : Stored u := h.stored.congr he.fb_eq he.params_eq (by rw [he]) (by rw [he])
  obtain ⟨rd, ph, tc, pr, rfl⟩ := he.exists_eq
  exact
    { memory_wf := h.memory_wf
      memory_bound := h.memory_bound
      frame := hst.frame
      divider := h.divider
      idle_quiet := h.idle_quiet
      busy_ready := h.busy_ready
      txn_iff := h.txn_iff
      tx_only := h.tx_only
      txn_len := h.txn_len
      rdptr_le := hr
      fstep_lt := h.fstep_lt
      delay_loaded := h.delay_loaded
      rsp_idle := h.rsp_idle
      status_le := h.status_le
      line_driven := fun hd => lineAfter_ne_z ws (h.line_driven hd) }

theorem Inv.atWork_endTx {s : State} (h : Inv s) (hch : s.ch = .transmitting) : AtWork (endTx s) := by
  have hbusy : s.ctrl ≠ .idle := by rw [h.tx_only hch]; decide
  exact
    { toStored := h.stored.congr rfl rfl rfl rfl
      divider := h.divider
      fstep_lt := h.fstep_lt
      status_le := h.status_le
      line_driven := by intro _ hz; cases hz
      ready := h.busy_ready hbusy
      ch_idle := rfl
      txn_none := rfl
      silent := h.silent hbusy }

theorem Inv.recordEnd {s : State} (h : Inv s) : Inv { s with out := s.out ++ [Event.txEnd] } :=
  { h with frame := (h.stored.congr (t := { s with out := s.out ++ [Event.txEnd] }) rfl rfl rfl rfl).frame }

theorem Inv.settle_leaves {u : State} (h : Inv u) (hch : u.ch = .transmitting) : (settle u).Leaves AtWork Sound Inv :=
  Machine.settle_leaves (h.recordEnd.atWork_endTx hch) (h.atWork_endTx hch).toSound h

/-! ## What a command at work leaves (R195, R230) -/

theorem conclude_inv {f : Flow} (h : f.Leaves AtWork Sound Inv) : Answers Inv (conclude f) :=
  conclude_answers h (fun _ hs => hs.toSound.inv_respondOk hs.ch_idle hs.txn_none) (fun e _ hs => hs.inv_raise e) (fun _ hs => hs)

theorem resume_inv {f : Flow} (h : f.Leaves AtWork Sound Inv) : Answers Inv (resume f) :=
  resume_answers h (fun _ hs hf => hs.inv_enterDelay hf) (fun _ hs => hs.toSound.inv_respondOk hs.ch_idle hs.txn_none)
    (fun e _ hs => hs.inv_raise e) (fun _ hs => hs)

theorem AtWork.writeBody_leaves {b : State} (h : AtWork b) : (writeBody b).Leaves AtWork Sound Inv := by
  obtain hf | ⟨hcap, ⟨e, hf⟩ | ⟨u, ws, hf, he, hr⟩⟩ := writeBody_cases b <;> rw [hf]
  · exact .failed (h.toSound.enterBuild _)
  · exact .failed (h.toSound.builtFrom hcap).beginRefused
  · have hch : u.ch = .transmitting := by rw [he]; rfl
    exact ((h.inv_started hcap).emitted he fun _ => hr).settle_leaves hch

theorem AtWork.fadePaint {s : State} (h : AtWork s) (c : FadeChannel) {k : BitVec 9} (hk : k.toNat < FADE_STEPS) :
    AtWork (fadePaint c k s) where
  toStored := h.toStored.congr rfl rfl rfl rfl
  divider := h.divider
  fstep_lt := hk
  status_le := h.status_le
  line_driven := h.line_driven
  ready := h.ready
  ch_idle := h.ch_idle
  txn_none := h.txn_none
  silent := h.silent

theorem AtWork.runDelay {s : State} (h : AtWork s) : AtWork (runDelay s) :=
  { h with toStored := h.toStored.congr rfl rfl rfl rfl }

theorem AtWork.fadeLoop_leaves {s : State} (h : AtWork s) : (fadeLoop fadeSchedule s).Leaves AtWork Sound Inv :=
  Machine.fadeLoop_leaves h fun ck hck _ hs =>
    fadeStep_leaves (hs.fadePaint ck.1 (fadeSchedule_step_lt hck)).writeBody_leaves fun _ ht => ht.enterDelay.runDelay

/-! ## The controller goes on (R27) -/

theorem AtWork.buildStep_inv {s : State} (h : AtWork s) : Answers Inv (buildStep s) := by
  obtain hb | ⟨hcap, ⟨e, hb⟩ | hb⟩ := buildStep_cases s <;> rw [hb]
  · exact .next ((h.toSound.enterBuild _).inv_raise _)
  · exact .next ((h.toSound.builtFrom hcap).beginRefused.inv_raise _)
  · exact .next (h.inv_started hcap)

theorem AtWork.delayStep_inv {s : State} (h : AtWork s) : Answers Inv (delayStep s) := by
  cases hn : nextFadeStep s.fch s.fstep with
  | none => rw [delayStep_last hn]; exact .next (h.runDelay.toSound.inv_respondOk h.ch_idle h.txn_none)
  | some ck =>
    rw [delayStep_next hn]
    exact .next ((h.runDelay.fadePaint ck.1 (nextFadeStep_step_lt hn)).inv_enterBuild true)

/-- An entry before the end of the frame keeps the invariant: `RDPTR` moves on by one at most. -/
theorem Inv.execEntry_inv {s : State} (h : Inv s) (hlt : s.rdptr.toNat < s.flen.toNat) (p : PulseCode) :
    Answers Inv (execEntry p s) := by
  obtain ⟨t, ht⟩ := execEntry_runs p s
  refine ⟨t, ht, ?_⟩
  obtain ⟨-, rfl⟩ | ⟨hch, -, ⟨ws, he, hp⟩ | ⟨u, ws, he, hp, hr⟩⟩ := execEntry_cases ht
  · exact h
  · have hfl : t.flen = s.flen := by rw [he]
    have hsmall := s.flen.isLt
    refine h.emitted he fun _ => ?_
    rw [hp, hfl, BitVec.toNat_add, show (1 : BitVec 21).toNat = 1 from rfl]
    omega
  · have hfl : u.flen = s.flen := by rw [he]
    have huch : u.ch = .transmitting := by rw [he]; exact hch
    have hu : Inv u := h.emitted he fun _ => by rw [hp, hfl]; omega
    exact (resume_inv (hu.settle_leaves huch)).of_next hr

/-- Every entry the serializer fetches has been written (R47, R63). -/
theorem Inv.readFb_ok {s : State} (h : Inv s) (hlt : s.rdptr.toNat < s.flen.toNat) : ∃ w, s.readFb s.rdptr.toNat = .ok w := by
  obtain hz | ⟨c, n, -, hf⟩ := h.frame
  · rw [hz] at hlt; exact absurd hlt (Nat.not_lt_zero _)
  · have hl : s.flen.toNat = 24 * n + 1 := hf.length
    exact ⟨_, by rw [State.readFb, hf.reads _ (by rw [frameWords_length]; omega)]⟩

theorem Inv.serializerStep_inv {s : State} (h : Inv s) : Answers Inv (serializerStep s) := by
  by_cases hq : s.ch = .transmitting ∧ s.txn.isSome = true
  · have hs : Sending s := ⟨h.tx_only hq.1, hq⟩
    by_cases hlt : s.rdptr.toNat < s.flen.toNat
    · obtain ⟨w, hw⟩ := h.readFb_ok hlt
      rw [serializerStep_word hs hlt hw]
      exact h.execEntry_inv hlt _
    · rw [serializerStep_end hs (by omega)]
      exact resume_inv (h.settle_leaves hq.1)
  · rw [serializerStep_quiet hq]
    exact .next h

theorem Inv.advance_inv {s : State} (h : Inv s) : Answers Inv (advance s) := by
  cases hc : s.ctrl with
  | idle => rw [advance_idle hc]; exact .next h
  | build =>
    rw [advance_build hc]
    exact (h.atWork (by rw [hc]; decide) (h.ch_idle (by rw [hc]; decide))).buildStep_inv
  | tx => rw [advance_tx hc]; exact h.serializerStep_inv
  | delay =>
    rw [advance_delay hc]
    exact (h.atWork (by rw [hc]; decide) (h.ch_idle (by rw [hc]; decide))).delayStep_inv

/-! ## The commands (R185, R191, R194, R230) -/

theorem divider_ne_zero {d : Nat} (h : dividerValid d = true) : BitVec.ofNat 8 d ≠ 0 := by
  intro hz
  rw [dividerValid, decide_eq_true_eq, MAX_DIVIDER] at h
  have ht : d % 2 ^ 8 = 0 := by simpa using congrArg BitVec.toNat hz
  omega

theorem Sound.construct_inv {s : State} (h : Sound s) (hch : s.ch = .idle) (ht : s.txn = none) (f : BitVec 16) (p : Byte) :
    Inv (construct f p s) := by
  obtain ⟨hv, hc⟩ | ⟨e, hc⟩ := construct_cases f p s <;> rw [hc]
  · refine Sound.inv_respondOk ?_ hch ht
    exact
      { toStored := h.toStored.congr rfl rfl rfl rfl
        divider := fun _ => divider_ne_zero hv
        fstep_lt := h.fstep_lt
        status_le := h.status_le
        line_driven := by intro _ hz; cases hz }
  · refine Sound.inv_raise ?_ _
    exact
      { toStored := h.toStored.congr rfl rfl rfl rfl
        divider := by intro hd; cases hd
        fstep_lt := h.fstep_lt
        status_le := h.status_le
        line_driven := by intro hd; cases hd }

theorem Sound.latchSend {s : State} (h : Sound s) (c : Color) (b : Byte) (n : BitVec 16) : Sound (s.latchSend c b n) :=
  { h with toStored := h.toStored.congr rfl rfl rfl rfl }

theorem Sound.latchColor {s : State} (h : Sound s) (c : Color) (n : BitVec 16) : Sound (s.latchColor c n) :=
  { h with toStored := h.toStored.congr rfl rfl rfl rfl }

theorem AtWork.sendBase {s : State} (h : AtWork s) (c : Color) (b : Byte) (n : BitVec 16) : AtWork (sendBase c b n s) :=
  { h with toStored := h.toStored.congr rfl rfl rfl rfl }

theorem AtWork.writeBase {s : State} (h : AtWork s) (c : Color) (n : BitVec 16) : AtWork (writeBase c n s) :=
  { h with toStored := h.toStored.congr rfl rfl rfl rfl }

theorem AtWork.fadeStart {s : State} (h : AtWork s) (c : Color) (n : BitVec 16) : AtWork (fadeStart c n s) :=
  { h with toStored := h.toStored.congr rfl rfl rfl rfl, fstep_lt := Nat.zero_lt_succ _ }

/-- An idle block of the invariant, with no response being delivered: a command may be accepted. -/
structure Accepting (s : State) : Prop where
  inv : Inv s
  idle : s.ctrl = .idle
  silent : s.rspValid = false

theorem Accepting.ch_idle {s : State} (h : Accepting s) : s.ch = .idle := (h.inv.idle_quiet h.idle).1

theorem Accepting.txn_none {s : State} (h : Accepting s) : s.txn = none := h.inv.txn_none h.ch_idle

theorem Accepting.atWork {s : State} (h : Accepting s) (hd : s.drv = .ready) : AtWork s :=
  ⟨h.inv.sound, hd, h.ch_idle, h.txn_none, h.silent⟩

theorem Accepting.exec_inv {s : State} (h : Accepting s) {i : Instr} (hi : i.nbits = 64) : Answers Inv (exec i s) := by
  have hs := h.inv.sound
  cases i with
  | construct f p => exact .next (hs.construct_inv h.ch_idle h.txn_none f p)
  | send c b n =>
    cases hd : s.drv with
    | unbuilt => rw [exec_send_unbuilt hd]; exact .next ((hs.latchSend c b n).inv_raise _)
    | ready => rw [exec_send_ready hd]; exact conclude_inv ((h.atWork hd).sendBase c b n).writeBody_leaves
  | write c n =>
    cases hd : s.drv with
    | unbuilt => rw [exec_write_unbuilt hd]; exact .next ((hs.latchColor c n).inv_raise _)
    | ready => rw [exec_write_ready hd]; exact conclude_inv ((h.atWork hd).writeBase c n).writeBody_leaves
  | fade c n =>
    cases hd : s.drv with
    | unbuilt => rw [exec_fade_unbuilt hd]; exact .next ((hs.latchColor c n).inv_raise _)
    | ready => rw [exec_fade_start hd]; exact conclude_inv ((h.atWork hd).fadeStart c n).fadeLoop_leaves
  | one => cases hi
  | zero => cases hi
  | term => cases hi

theorem Accepting.start_inv {s : State} (h : Accepting s) {i : Instr} (hi : i.nbits = 64) : Answers Inv (start i s) := by
  cases hd : s.drv with
  | unbuilt => rw [start_unbuilt hd]; exact h.exec_inv hi
  | ready =>
    have hw := h.atWork hd
    cases i with
    | construct f p => exact .next (h.inv.sound.construct_inv h.ch_idle h.txn_none f p)
    | send c b n => rw [start_send_ready hd]; exact .next ((hw.sendBase c b n).inv_enterBuild false)
    | write c n => rw [start_write_ready hd]; exact .next ((hw.writeBase c n).inv_enterBuild false)
    | fade c n =>
      rw [start_fade_start hd]
      exact .next (((hw.fadeStart c n).fadePaint .blue (k := 0) (Nat.zero_lt_succ _)).inv_enterBuild true)
    | one => cases hi
    | zero => cases hi
    | term => cases hi

theorem Accepting.runCommand_inv {s : State} (h : Accepting s) (pace : Pace) (w : CmdWord) :
    Answers Inv (runCommand pace w s) := by
  cases hd : decodeCommand w with
  | error e => rw [runCommand_illegal hd]; exact .next (h.inv.sound.inv_raise _)
  | ok i =>
    cases pace with
    | whole => rw [runCommand_whole hd]; exact h.exec_inv (decodeCommand_nbits hd)
    | stepwise => rw [runCommand_stepwise hd]; exact h.start_inv (decodeCommand_nbits hd)

/-! ## The step -/

theorem Inv.accept {s : State} (h : Inv s) (r : List HostInput) : Inv (s.accept r) :=
  { h with
    frame := (h.stored.congr (t := s.accept r) rfl rfl rfl rfl).frame
    rsp_idle := by intro hv; cases hv }

/-- `rst` leads into the invariant from any state (R46, R290). -/
theorem inv_applyReset (s : State) (rest : List HostInput) : Inv (s.applyReset rest) :=
  Sound.inv_idle
    { memory_wf := rfl
      memory_bound := by intro e he; cases he
      frame := .inl rfl
      divider := by intro hd; cases hd
      fstep_lt := Nat.zero_lt_succ _
      status_le := Nat.zero_le _
      line_driven := by intro hd; cases hd }
    rfl rfl rfl rfl

/-- From a state of the invariant every step answers a state of the invariant. -/
theorem Inv.step_answers {s : State} (h : Inv s) : Answers Inv (step s) := by
  obtain ⟨rest, -, hs⟩ | ⟨pace, w, rest, -, hc, hs⟩ | ⟨left, hs⟩ := step_dispatch s <;> rw [hs]
  · exact .next (inv_applyReset s rest)
  · exact Accepting.runCommand_inv ⟨h.accept rest, hc, rfl⟩ pace w
  · exact (h.accept left).advance_inv

/-- Settles O53: a step answers a state of the invariant, whichever part of it runs. -/
theorem everyStepKeepsTheInvariant : Obligations.EveryStepKeepsTheInvariant :=
  fun _ _ h hs => h.step_answers.of_next hs

/-- Settles O54: in the invariant the frame that is read has been written and the one that is built fits. -/
theorem noStepStops : Obligations.NoStepStops := fun _ h => h.step_answers.runs

/-- Settles O52: `State.reset` is what `rst` makes of itself. -/
theorem resetMeetsTheInvariant : Obligations.ResetMeetsTheInvariant := inv_applyReset State.reset []

/-! ## The command port and the reset values (R29, R46) -/

/-- Settles O44: an idle block accepts the word, and its pace says whether the instruction is executed or started. -/
theorem stepRunsTheOfferedCommand : Obligations.StepRunsTheOfferedCommand := by
  intro s w rest i hc hd
  constructor <;> intro hq
  · exact (step_accepted hq hc).trans (runCommand_whole hd _)
  · exact (step_accepted hq hc).trans (runCommand_stepwise hd _)

/-- Settles O50: every row is the value `State.resetWith` writes, whatever the parameters. -/
theorem resetValues : Obligations.ResetValues := by
  and_intros <;> rfl

end Sys2Proof.Machine
end

section
/-! SUPPORT. DECODE_PACKET undoes the packing of a colour (R153), and every LED position of a frame holds the entries of the
packet (R62). At the end the statement on the LED positions of a built frame. -/

namespace Sys2Proof.Machine

open Sys2Proof.Config

/-! ## Decoding a packet (R153) -/

@[simp] theorem pulseBit_enc (v : Bool) : pulseBit (enc v) = some v := by
  cases v <;> rfl

/-- The bits of a byte, most significant first. -/
def byteBits (v : Byte) : List Bool := (List.range 8).map fun m => v.getLsbD (7 - m)

@[simp] theorem byteBits_length (v : Byte) : (byteBits v).length = 8 := by
  simp [byteBits]

theorem byteCodes_eq_map_byteBits (v : Byte) : byteCodes v = (byteBits v).map enc := by
  simp [byteCodes, byteBits]

theorem packetCodes_eq_map_byteBits (c : Color) :
    packetCodes c = (byteBits c.g ++ (byteBits c.r ++ byteBits c.b)).map enc := by
  simp [packetCodes, byteCodes_eq_map_byteBits]

@[simp] theorem packetCodes_length (c : Color) : (packetCodes c).length = BITS_PER_LED := by
  simp [packetCodes_eq_map_byteBits, BITS_PER_LED]

theorem mapM_pulseBit_map_enc (bs : List Bool) : (bs.map enc).mapM pulseBit = some bs := by
  induction bs with
  | nil => rfl
  | cons v bs ih => simp [ih]

/-- Reading the `n` low bits of `x` from the highest down shifts the accumulator by `n` and adds `x mod 2^n`. -/
theorem foldl_testBit_descending (x n acc : Nat) :
    ((List.range n).map fun m => x.testBit (n - 1 - m)).foldl (fun acc b => 2 * acc + b.toNat) acc =
      acc * 2 ^ n + x % 2 ^ n := by
  induction n generalizing acc with
  | zero => simp [Nat.mod_one]
  | succ n ih =>
    have hrest : ((List.range n).map fun m => x.testBit (n - (m + 1))) =
        (List.range n).map fun m => x.testBit (n - 1 - m) :=
      List.map_congr_left fun m _ => by rw [Nat.add_comm m 1, Nat.sub_add_eq]
    rw [List.range_succ_eq_map, List.map_cons, List.map_map, List.foldl_cons]
    simp only [Function.comp_def, Nat.succ_eq_add_one, Nat.add_sub_cancel, Nat.sub_zero]
    rw [hrest, ih, Nat.mod_pow_succ, Nat.toNat_testBit]
    ring

theorem bitsToByte_byteBits (v : Byte) : bitsToByte (byteBits v) = v := by
  apply BitVec.eq_of_toNat_eq
  have hfold := foldl_testBit_descending v.toNat 8 0
  rw [bitsToByte, byteBits, BitVec.toNat_ofNat]
  simp only [BitVec.testBit_toNat] at hfold
  rw [hfold, Nat.zero_mul, Nat.zero_add, Nat.mod_mod, Nat.mod_eq_of_lt v.isLt]

theorem decodePacket_packetCodes (c : Color) : decodePacket (packetCodes c) = some c := by
  rw [decodePacket, if_pos (packetCodes_length c), packetCodes_eq_map_byteBits, mapM_pulseBit_map_enc]
  simp [bitsToByte_byteBits, List.drop_append, List.drop_eq_nil_of_le]

/-! ## The LED positions of a frame (R62, R77) -/

theorem filterMap_range_getElem? {α : Type} (xs : List α) : (List.range xs.length).filterMap (fun i => xs[i]?) = xs := by
  induction xs with
  | nil => rfl
  | cons x xs ih => simp [List.range_succ_eq_map, List.filterMap_map, ih]

theorem HoldsFrame.read_led {s : State} {c : Color} {n k j : Nat} (h : HoldsFrame s c n) (hk : k < n) (hj : j < 24) :
    Memory.read s.fb (24 * k + j) = (packetCodes c)[j]? := by
  have hi : 24 * k + j < BITS_PER_LED * n := by rw [BITS_PER_LED]; omega
  rw [h.data _ hi, BITS_PER_LED, Nat.mul_add_mod, Nat.mod_eq_of_lt hj]

theorem HoldsFrame.led_entries {s : State} {c : Color} {n k : Nat} (h : HoldsFrame s c n) (hk : k < n) :
    ((List.range 24).filterMap fun j => Memory.read s.fb (24 * k + j)) = packetCodes c := by
  calc (List.range 24).filterMap (fun j => Memory.read s.fb (24 * k + j))
    _ = (List.range (packetCodes c).length).filterMap fun j => (packetCodes c)[j]? := by
      rw [packetCodes_length, BITS_PER_LED]
      exact List.filterMap_congr fun j hj => h.read_led hk (List.mem_range.mp hj)
    _ = packetCodes c := filterMap_range_getElem? _

/-- BUILD_PACKET and BUILD_FRAME on a checked count leave the frame of `SCOL` (R43 item 2). -/
theorem buildFrame_buildPacket_holds {s : State} (h : capacityExceeded s.params s.count = false) :
    ∃ t, buildFrame (buildPacket s) = .ok t ∧ HoldsFrame t s.scol s.count.toNat :=
  ⟨_, buildFrame_ok (buildPacket s) (capacityExceeded_eq_false.mp h), (builtFrom_holds s).congr rfl rfl rfl⟩

/-- Settles O17: the built frame holds the packet of `SCOL` at every LED position, and decoding undoes the packing. -/
theorem everyLedPositionDecodesToScol : Obligations.EveryLedPositionDecodesToScol := by
  intro s hcap
  obtain ⟨t, ht, hframe⟩ := buildFrame_buildPacket_holds hcap
  refine ⟨t, ht, fun k hk => ⟨?_, fun j hj => ?_⟩⟩
  · rw [hframe.led_entries hk, decodePacket_packetCodes]
  · have hfirst : Memory.read t.fb j = (packetCodes s.scol)[j]? := by
      simpa using hframe.read_led (k := 0) (by omega) hj
    rw [hframe.read_led hk hj, hfirst]

end Sys2Proof.Machine
end

section
/-! SUPPORT. The decoders and the encoders are inverse to each other, on both ports, and the masks of R94 to R97 say of a
command word what its fields say. At the end the statements on the encodings. -/

namespace Sys2Proof

/-! ## Fields and instructions (R94 to R97, R101) -/

/-- Decoding the fields and giving the fields are inverse to each other: fields that are decoded are all accounted for. -/
theorem decodeFields_eq_ok_iff {f : CommandFields} {i : Instr} : decodeFields f = .ok i ↔ i.fields = some f := by
  constructor
  · obtain ⟨op, wide, mid, rsv, r, g, b⟩ := f
    intro h
    simp only [decodeFields, CommandFields.check, CommandFields.constructReservedZero, CommandFields.sendReservedZero,
      CommandFields.plainReservedZero, Bool.and_eq_true, beq_iff_eq] at h
    split_ifs at h <;> cases h <;> simp_all [Instr.fields]
  · intro h
    cases i <;> cases h <;> rfl

/-- What the decoder accepts, it accepts as legal (R101). -/
theorem CommandFields.legal_of_decodeFields {f : CommandFields} {i : Instr} (h : decodeFields f = .ok i) : f.legal = true := by
  rw [decodeFields] at h
  rw [CommandFields.legal]
  cases hc : f.check with
  | error e => rw [hc] at h; cases h
  | ok u => rfl

/-- R101: every value of every operand is legal as an encoding. -/
theorem Instr.wf_eq_true (i : Instr) : i.wf = true := by
  rw [Instr.wf]
  cases hf : i.fields with
  | none => rfl
  | some f => exact CommandFields.legal_of_decodeFields (decodeFields_eq_ok_iff.mpr hf)

/-! ## Words and instructions (R108, R111) -/

theorem decodeCommand_eq_ok_iff_fields {w : CmdWord} {i : Instr} :
    decodeCommand w = .ok i ↔ i.fields = some (splitCommand w) := decodeFields_eq_ok_iff

theorem encodeCommand_eq_some_iff {w : CmdWord} {i : Instr} :
    encodeCommand i = some w ↔ i.fields = some (splitCommand w) := by
  rw [encodeCommand]
  cases hf : i.fields with
  | none => simp
  | some f =>
    simp only [Option.some.injEq]
    constructor
    · rintro rfl; exact (splitCommand_joinCommand f).symm
    · rintro rfl; exact joinCommand_splitCommand w

/-- The command decoder and the command encoder are inverse to each other (R111). -/
theorem decodeCommand_eq_ok_iff {w : CmdWord} {i : Instr} : decodeCommand w = .ok i ↔ encodeCommand i = some w :=
  decodeCommand_eq_ok_iff_fields.trans encodeCommand_eq_some_iff.symm

/-- The entry decoder and the entry encoder are inverse to each other (R103, R104). -/
theorem decodePulse_eq_some_iff {w : PulseWord} {i : Instr} : decodePulse w = some i ↔ encodePulse i = some w := by
  constructor
  · intro h
    rw [decodePulse] at h
    split_ifs at h <;> cases h <;> subst_vars <;> rfl
  · intro h
    cases i <;> cases h <;> rfl

theorem encode_of_encodeCommand {w : CmdWord} {i : Instr} (h : encodeCommand i = some w) : encode i = w.toNat := by
  rw [encode, h]

theorem encode_of_encodePulse {w : PulseWord} {i : Instr} (h : encodePulse i = some w) : encode i = w.toNat := by
  cases i <;> cases h <;> rfl

theorem decodeTableWord_command {w : CmdWord} {i : Instr} (h : decodeCommand w = .ok i) :
    decodeTableWord 64 w.toNat = some i := by
  rw [decodeTableWord, if_pos rfl, BitVec.ofNat_toNat, BitVec.setWidth_eq, h]

theorem decodeTableWord_entry (w : PulseWord) : decodeTableWord 32 w.toNat = decodePulse w := by
  rw [decodeTableWord, if_neg (by decide), if_pos rfl, BitVec.ofNat_toNat, BitVec.setWidth_eq]

/-- Every instruction has a word on one of the two ports, of that port's length (R108). -/
theorem Instr.has_word (i : Instr) :
    (∃ w : CmdWord, encodeCommand i = some w ∧ i.nbits = 64) ∨ ∃ w : PulseWord, encodePulse i = some w ∧ i.nbits = 32 := by
  cases i with
  | construct f p => exact .inl ⟨_, rfl, rfl⟩
  | send c b n => exact .inl ⟨_, rfl, rfl⟩
  | write c n => exact .inl ⟨_, rfl, rfl⟩
  | fade c n => exact .inl ⟨_, rfl, rfl⟩
  | one => exact .inr ⟨_, rfl, rfl⟩
  | zero => exact .inr ⟨_, rfl, rfl⟩
  | term => exact .inr ⟨_, rfl, rfl⟩

/-- Settles O1: the word an instruction has on its port is one the decoder of that port reads back. -/
theorem decodeOfEncodeIsTheInstruction : Obligations.DecodeOfEncodeIsTheInstruction := by
  intro i
  refine ⟨i.wf_eq_true, ?_⟩
  obtain ⟨w, hw, hn⟩ | ⟨w, hw, hn⟩ := i.has_word
  · rw [hn, encode_of_encodeCommand hw]
    exact ⟨w.isLt, decodeTableWord_command (decodeCommand_eq_ok_iff.mpr hw)⟩
  · rw [hn, encode_of_encodePulse hw, decodeTableWord_entry]
    exact ⟨w.isLt, decodePulse_eq_some_iff.mpr hw⟩

/-- Settles O2: on each port the decoder and the encoder are inverse to each other. -/
theorem encodeOfDecodedWordIsTheWord : Obligations.EncodeOfDecodedWordIsTheWord :=
  ⟨fun _ _ => decodeCommand_eq_ok_iff.mp, fun _ _ => decodePulse_eq_some_iff.mp⟩

/-! ## Matches and masks (R94 to R97) -/

theorem splitCommand_injective : Function.Injective splitCommand :=
  Function.LeftInverse.injective joinCommand_splitCommand

/-- A word equals a match under a mask exactly when each of its fields does. -/
theorem masked_eq_iff {w m v : CmdWord} :
    w &&& m = v ↔
      (splitCommand w).op &&& (splitCommand m).op = (splitCommand v).op ∧
      (splitCommand w).wide &&& (splitCommand m).wide = (splitCommand v).wide ∧
      (splitCommand w).mid &&& (splitCommand m).mid = (splitCommand v).mid ∧
      (splitCommand w).rsv &&& (splitCommand m).rsv = (splitCommand v).rsv ∧
      (splitCommand w).r &&& (splitCommand m).r = (splitCommand v).r ∧
      (splitCommand w).g &&& (splitCommand m).g = (splitCommand v).g ∧
      (splitCommand w).b &&& (splitCommand m).b = (splitCommand v).b := by
  rw [← splitCommand_injective.eq_iff]
  simp only [splitCommand, BitVec.extractLsb'_and, CommandFields.mk.injEq]

/-- A mask byte of ones keeps the field. -/
theorem and_ones (x : Byte) : x &&& 255#8 = x := BitVec.and_allOnes

theorem construct_match_iff (w : CmdWord) :
    w &&& 0xFF000000FFFFFFFF#64 = 0x0100000000000000#64 ↔
      decodeCommand w = .ok (.construct (w.extractLsb' 40 16) (w.extractLsb' 32 8)) := by
  rw [masked_eq_iff, decodeCommand_eq_ok_iff_fields, eq_comm (b := some _)]
  simp [splitCommand, Instr.fields, and_ones]

theorem send_match_iff (w : CmdWord) :
    w &&& 0xFF000000FF000000#64 = 0x0200000000000000#64 ↔
      decodeCommand w =
        .ok (.send ⟨w.extractLsb' 16 8, w.extractLsb' 8 8, w.extractLsb' 0 8⟩ (w.extractLsb' 32 8) (w.extractLsb' 40 16)) := by
  rw [masked_eq_iff, decodeCommand_eq_ok_iff_fields, eq_comm (b := some _)]
  simp [splitCommand, Instr.fields, and_ones]

theorem write_match_iff (w : CmdWord) :
    w &&& 0xFF0000FFFF000000#64 = 0x0300000000000000#64 ↔
      decodeCommand w =
        .ok (.write ⟨w.extractLsb' 16 8, w.extractLsb' 8 8, w.extractLsb' 0 8⟩ (w.extractLsb' 40 16)) := by
  rw [masked_eq_iff, decodeCommand_eq_ok_iff_fields, eq_comm (b := some _)]
  simp [splitCommand, Instr.fields, and_ones]

theorem fade_match_iff (w : CmdWord) :
    w &&& 0xFF0000FFFF000000#64 = 0x0400000000000000#64 ↔
      decodeCommand w =
        .ok (.fade ⟨w.extractLsb' 16 8, w.extractLsb' 8 8, w.extractLsb' 0 8⟩ (w.extractLsb' 40 16)) := by
  rw [masked_eq_iff, decodeCommand_eq_ok_iff_fields, eq_comm (b := some _)]
  simp [splitCommand, Instr.fields, and_ones]

/-- Everything a command word can decode to: one of the four commands, its operands cut from the word. -/
theorem decodeCommand_cases {w : CmdWord} {i : Instr} (h : decodeCommand w = .ok i) :
    i = .construct (w.extractLsb' 40 16) (w.extractLsb' 32 8) ∨
    i = .send ⟨w.extractLsb' 16 8, w.extractLsb' 8 8, w.extractLsb' 0 8⟩ (w.extractLsb' 32 8) (w.extractLsb' 40 16) ∨
    i = .write ⟨w.extractLsb' 16 8, w.extractLsb' 8 8, w.extractLsb' 0 8⟩ (w.extractLsb' 40 16) ∨
    i = .fade ⟨w.extractLsb' 16 8, w.extractLsb' 8 8, w.extractLsb' 0 8⟩ (w.extractLsb' 40 16) := by
  rw [decodeCommand, decodeFields] at h
  split at h
  · cases h
  · split_ifs at h <;> cases h <;> simp [splitCommand]

/-- Settles O3: a word matches a command under its mask exactly when it decodes to that command, and so do the examples. -/
theorem commandsMatchTheirPatterns : Obligations.CommandsMatchTheirPatterns :=
  ⟨fun w => (construct_match_iff w).mp, fun w => (send_match_iff w).mp, fun w => (write_match_iff w).mp,
    fun w => (fade_match_iff w).mp, (construct_match_iff _).mp (by decide), (send_match_iff _).mp (by decide),
    (write_match_iff _).mp (by decide), (fade_match_iff _).mp (by decide)⟩

/-- Settles O4: the decoder gives one of four commands, and each of them exactly on the words that match it. -/
theorem legalWordsAreTheFourPatterns : Obligations.LegalWordsAreTheFourPatterns := by
  intro w
  rw [construct_match_iff, send_match_iff, write_match_iff, fade_match_iff]
  constructor
  · rintro ⟨i, h⟩
    obtain rfl | rfl | rfl | rfl := decodeCommand_cases h
    · exact .inl h
    · exact .inr (.inl h)
    · exact .inr (.inr (.inl h))
    · exact .inr (.inr (.inr h))
  · rintro (h | h | h | h) <;> exact ⟨_, h⟩

/-- Settles O5: the decoder evaluated on each of the written words. -/
theorem writtenWordsDecode : Obligations.WrittenWordsDecode := by
  unfold Obligations.WrittenWordsDecode
  decide

/-! ## PulseCode words (R102, R103) -/

theorem PulseCode.ofWord_toWord (p : PulseCode) : PulseCode.ofWord p.toWord = p := by
  obtain ⟨lh, dh, ll, dl⟩ := p
  simp only [PulseCode.ofWord, PulseCode.toWord, PulseCode.mk.injEq]
  refine ⟨?_, ?_, ?_, ?_⟩
  · simp only [BitVec.getLsbD_append, BitVec.getLsbD_ofBool]; simp
  · exact BitVec.extractLsb'_append_eq_right
  · simp only [BitVec.getLsbD_append, BitVec.getLsbD_ofBool]; simp
  · calc (BitVec.ofBool ll ++ dl ++ BitVec.ofBool lh ++ dh).extractLsb' 16 15
      _ = (BitVec.ofBool ll ++ dl ++ BitVec.ofBool lh).extractLsb' 1 15 := BitVec.extractLsb'_append_eq_of_le (by decide)
      _ = (BitVec.ofBool ll ++ dl).extractLsb' 0 15 := BitVec.extractLsb'_append_eq_of_le (by decide)
      _ = dl := BitVec.extractLsb'_append_eq_right

theorem PulseCode.toWord_ofWord (w : PulseWord) : (PulseCode.ofWord w).toWord = w := by
  rw [PulseCode.ofWord, PulseCode.toWord]
  apply BitVec.eq_of_getLsbD_eq
  intro i hi
  simp only [BitVec.getLsbD_extractLsb', BitVec.getLsbD_append, BitVec.getLsbD_ofBool]
  interval_cases i <;> simp

/-- Settles O6: the four fields are disjoint and fill the word. -/
theorem pulseCodePackingRoundTrip : Obligations.PulseCodePackingRoundTrip :=
  ⟨PulseCode.ofWord_toWord, PulseCode.toWord_ofWord⟩

/-- Settles O7: the fields are those of R103 by definition, and the words and sums are evaluated. -/
theorem dataSymbols : Obligations.DataSymbols :=
  ⟨rfl, rfl, ⟨rfl, rfl, rfl, rfl⟩, by decide, by decide, rfl, rfl⟩

end Sys2Proof
end

section
/-! SUPPORT. TERM executed by the serializer, outcome by outcome (R104, R201). At the end the statement on it. -/

namespace Sys2Proof.Machine

open Sys2Proof.Config

/-- TERM stops the serializer at once, so the transmission is settled and returns to its caller (R104, R203). -/
theorem exec_term {s : State} (h : s.ch = .transmitting ∧ s.txn.isSome = true) : exec .term s = resume (settle s) := by
  show execEntry termCode s = _
  rw [execEntry, if_pos h]
  rfl

theorem resume_done_fade {s : State} (h : s.inFade = true) : resume (.done s) = .next (enterDelay s) := by
  rw [resume, if_pos h]

/-- Outside a fade a completed transmission responds, and the fade mark stays off. -/
theorem resume_done_command {s : State} (h : s.inFade = false) :
    resume (.done s) = .next { s with result := rspWord statusOk 0, rspValid := true, ctrl := .idle } := by
  rw [resume, if_neg (by rw [h]; decide), respondOk, respond, ← h]

/-- Settles O26: TERM settles the transmission, and the outcome says how. -/
theorem termEndsTheTransmission : Obligations.TermEndsTheTransmission := by
  intro s hch htxn
  rw [exec_term ⟨hch, htxn⟩]
  refine ⟨fun ho hf => ?_, fun ho hf => ?_, fun e m ho => ?_, fun m ho => ?_⟩
  · rw [settle_done ho, resume_done_command (by exact hf)]; rfl
  · rw [settle_done ho, resume_done_fade (by exact hf)]; rfl
  · rw [settle_err ho]; rfl
  · rw [settle_never ho]; rfl

end Sys2Proof.Machine
end

section
/-! SUPPORT. Nothing that SEND and WRITE run after their latches reads `COLOR` or `BRI`: with other values in the two the whole of
WRITE_BODY does the same. At the end the statement on SEND at full and at zero brightness. -/

namespace Sys2Proof.Machine

open Sys2Proof.Config

/-- Other values in the latches `COLOR` and `BRI`. -/
def relatch (f : Color → Color) (b : Byte) (s : State) : State := { s with color := f s.color, bri := b }

/-! ## The endings, with the state they carry changed -/

def Held.map (g : State → State) : Held → Held
  | .whole s => .whole (g s)
  | .cut s => .cut (g s)

def EntryEnd.map (g : State → State) : EntryEnd → EntryEnd
  | .running s => .running (g s)
  | .stopped s => .stopped (g s)
  | .cut s => .cut (g s)

def Flow.map (g : State → State) : Flow → Flow
  | .done s => .done (g s)
  | .failed e s => .failed e (g s)
  | .hung s => .hung (g s)
  | .faulted x => .faulted x

section
variable (f : Color → Color) (b : Byte)

/-! ## The transmission (R203, R197) -/

theorem hold_relatch (ph : Phase) (l : Level) (ticks : BitVec 15) (s : State) :
    hold ph l ticks (relatch f b s) = (hold ph l ticks s).map (relatch f b) := by
  have ho : (relatch f b s).hwOutcome = s.hwOutcome := rfl
  rw [hold, hold, ho]
  cases budget s.hwOutcome with
  | none => rfl
  | some m => simp only; split_ifs <;> rfl

theorem serializeEntry_relatch (p : PulseCode) (s : State) :
    serializeEntry p (relatch f b s) = (serializeEntry p s).map (relatch f b) := by
  rw [serializeEntry, serializeEntry, hold_relatch]
  by_cases hh : p.dh = 0
  · rw [if_pos hh, if_pos hh]; rfl
  rw [if_neg hh, if_neg hh]
  cases hold .high p.lh p.dh s with
  | cut u => rfl
  | whole u =>
    simp only [Held.map, hold_relatch]
    by_cases hl : p.dl = 0
    · rw [if_pos hl, if_pos hl]; rfl
    rw [if_neg hl, if_neg hl]
    cases hold .low p.ll p.dl u <;> rfl

theorem settle_relatch (s : State) : settle (relatch f b s) = (settle s).map (relatch f b) := by
  have ho : (relatch f b s).hwOutcome = s.hwOutcome := rfl
  rw [settle, settle, ho]
  cases s.hwOutcome <;> rfl

theorem transmit_relatch (n : Nat) (s : State) : transmit n (relatch f b s) = (transmit n s).map (relatch f b) := by
  induction n generalizing s with
  | zero => exact settle_relatch f b s
  | succ n ih =>
    have hr : (relatch f b s).readFb (relatch f b s).rdptr.toNat = s.readFb s.rdptr.toNat := rfl
    rw [transmit, transmit, hr]
    cases s.readFb s.rdptr.toNat with
    | error x => rfl
    | ok w =>
      simp only [serializeEntry_relatch]
      cases serializeEntry (PulseCode.ofWord w) s with
      | running u => exact ih u
      | stopped u => exact settle_relatch f b u
      | cut u => exact settle_relatch f b u

theorem dispatch_relatch (s : State) : dispatch (relatch f b s) = (dispatch s).map (relatch f b) := by
  rw [dispatch, dispatch]
  cases h : s.beginAt 0 with
  | err e => rw [beginTx_err h, beginTx_err (s := relatch f b s) h]; rfl
  | ok =>
    rw [beginTx_ok h, beginTx_ok (s := relatch f b s) h]
    exact transmit_relatch f b (started s).flen.toNat (started s)

/-! ## WRITE_BODY (R195) and the end of the command -/

theorem writeBody_relatch (s : State) : writeBody (relatch f b s) = (writeBody s).map (relatch f b) := by
  by_cases hcap : s.count.toNat + 2 ≤ s.params.maxLeds
  · rw [writeBody_built hcap, writeBody_built (b := relatch f b s) hcap]
    exact dispatch_relatch f b (builtFrom s)
  · have hcap' : s.params.maxLeds ≤ s.count.toNat + 1 := by omega
    rw [writeBody_capacity hcap', writeBody_capacity (b := relatch f b s) hcap']
    rfl

theorem conclude_relatch {fl : Flow} {t : State} (h : conclude fl = .next t) :
    conclude (fl.map (relatch f b)) = .next (relatch f b t) := by
  cases fl with
  | done s => cases h; rfl
  | failed e s => cases h; rfl
  | hung s => cases h; rfl
  | faulted x => cases h

/-- SEND answers as WRITE of the scaled colour does, but for the two latches: `f` gives back the operand that `COLOR` holds
(R191, R194). -/
theorem exec_send_of_write {c : Color} {n : BitVec 16} {s t : State}
    (hf : f (scaleColor c b) = c) (h : exec (.write (scaleColor c b) n) s = .next t) :
    exec (.send c b n) s = .next (relatch f b t) := by
  cases hd : s.drv with
  | unbuilt =>
    rw [exec_write_unbuilt hd] at h
    cases h
    rw [exec_send_unbuilt hd]
    simp [relatch, raise, respond, State.latchSend, State.latchColor, driverAfter, hf]
  | ready =>
    have hbase : sendBase c b n s = relatch f b (writeBase (scaleColor c b) n s) := by simp [sendBase, relatch, writeBase, hf]
    rw [exec_write_ready hd] at h
    rw [exec_send_ready hd, hbase, writeBody_relatch]
    exact conclude_relatch f b h

end

/-! ## SCALE at its two ends (R190) -/

theorem scale_full (c : Byte) : scale c 255 = c := by
  have h : c.toNat * ((255 : Byte).toNat + 1) / 256 = c.toNat := Nat.mul_div_cancel _ (by decide)
  rw [scale, h, BitVec.ofNat_toNat, BitVec.setWidth_eq]

theorem scale_none (c : Byte) : scale c 0 = 0 := by
  have h : c.toNat * ((0 : Byte).toNat + 1) / 256 = 0 := Nat.div_eq_of_lt (by simpa using c.isLt)
  rw [scale, h]
  rfl

theorem scaleColor_full (c : Color) : scaleColor c 255 = c := by simp only [scaleColor, scale_full]

theorem scaleColor_none (c : Color) : scaleColor c 0 = ⟨0, 0, 0⟩ := by simp only [scaleColor, scale_none]

/-- Settles O36: SCALE at 255 is the colour and at 0 black, and `COLOR` and `BRI` decide nothing else. -/
theorem sendAtFullAndZeroBrightness : Obligations.SendAtFullAndZeroBrightness := by
  intro c n s
  refine ⟨fun t h => ?_, fun t h => ?_⟩
  · rw [← scaleColor_full c] at h
    exact exec_send_of_write id 255 (scaleColor_full c) h
  · rw [← scaleColor_none c] at h
    exact exec_send_of_write (fun _ => c) 0 rfl h

end Sys2Proof.Machine
end

section
/-! SUPPORT. TICKDIV as a division by 20 (R130), the ordering of the two data symbols (R135), and an entry executed to its end when
the outcome lets both halves out whole (R203). At the end of each part the statement on it. -/

namespace Sys2Proof.Machine

open Sys2Proof.Config

/-! ## TICKDIV (R130) -/

theorem tickDivider_eq_div (f : BitVec 16) : tickDivider f = f.toNat / 20 :=
  Nat.mul_div_mul_right f.toNat 20 (by decide : 0 < 5)

/-- Every corner case of R130 is a range of 20 frequencies, or lies inside one. -/
theorem tickDivider_eq_iff {f : BitVec 16} {d : Nat} : tickDivider f = d ↔ 20 * d ≤ f.toNat ∧ f.toNat < 20 * (d + 1) := by
  rw [tickDivider_eq_div]
  omega

theorem tickDivider_le (f : BitVec 16) : tickDivider f ≤ 3276 := by
  have hf := f.isLt
  rw [tickDivider_eq_div]
  omega

/-- R130: the product is computed before the division, and fits 32 bits. -/
theorem tickDivider_product_lt (f : BitVec 16) : f.toNat * 5 < 2 ^ 32 := by
  have hf := f.isLt
  omega

/-- Settles O8: `5 / 100` is `1 / 20`, so each divider stands for a range of 20 frequencies. -/
theorem tickDividerFormula : Obligations.TickDividerFormula := by
  refine ⟨fun f => ⟨rfl, tickDivider_eq_div f, tickDivider_le f, tickDivider_product_lt f⟩, fun f hi => ?_, fun f lo hi => ?_,
    fun f lo hi => ?_, fun f lo hi => ?_, by decide, by decide⟩
  all_goals exact tickDivider_eq_iff.mpr ⟨by omega, by omega⟩

/-! ## The two data symbols (R135) -/

/-- The words of the two symbols differ: each gives its bit back (R153). -/
theorem enc_injective : Function.Injective enc := fun v w h => by
  simpa using congrArg pulseBit h

/-- Settles O9: the fields are the constants of R7, whose order is evaluated, and the words stand for different bits. -/
theorem symbolOrdering : Obligations.SymbolOrdering :=
  ⟨rfl, rfl, rfl, rfl, by decide, by decide, by decide, by decide, enc_injective.ne (by decide)⟩

/-! ## An entry that is not cut (R203) -/

/-- A half is out whole when the outcome has ticks enough for it. -/
theorem hold_whole {ph : Phase} {l : Level} {ticks : BitVec 15} {s : State}
    (h : ∀ m, budget s.hwOutcome = some m → ticks.toNat ≤ m) :
    hold ph l ticks s = .whole (runHalf ph l ticks.toNat ticks.toNat s) := by
  obtain ⟨hw, -⟩ | ⟨m, hm, hlt, -⟩ := hold_cases ph l ticks s
  · exact hw
  · exact absurd (h m hm) (Nat.not_le.mpr hlt)

/-- `s` after both halves of the entry `p` are out and `RDPTR` has advanced; the counters are spent (log 12). -/
def entryDone (p : PulseCode) (s : State) : State :=
  { s with
    out := s.out ++ segEvents [⟨p.lh, p.dh.toNat⟩, ⟨p.ll, p.dl.toNat⟩]
    line := .driven p.ll
    rdptr := s.rdptr + 1
    phase := .low
    tickcnt := 0
    presc := 0
    hwOutcome := spend (p.dh.toNat + p.dl.toNat) s.hwOutcome }

/-- An entry without a zero duration completes when the outcome has ticks enough for both its halves. -/
theorem serializeEntry_whole {p : PulseCode} {s : State} (hh : ¬ p.dh = 0) (hl : ¬ p.dl = 0)
    (h : ∀ m, budget s.hwOutcome = some m → p.dh.toNat + p.dl.toNat ≤ m) :
    serializeEntry p s = .running (entryDone p s) := by
  have hhigh : hold .high p.lh p.dh s = .whole (runHalf .high p.lh p.dh.toNat p.dh.toNat s) :=
    hold_whole fun m hm => (Nat.le_add_right ..).trans (h m hm)
  have hlow (u : State) (hu : u.hwOutcome = spend p.dh.toNat s.hwOutcome) :
      hold .low p.ll p.dl u = .whole (runHalf .low p.ll p.dl.toNat p.dl.toNat u) := by
    refine hold_whole fun m hm => ?_
    rw [hu, budget_spend] at hm
    obtain ⟨m0, hm0, rfl⟩ := Option.map_eq_some_iff.mp hm
    exact Nat.le_sub_of_add_le' (h m0 hm0)
  rw [serializeEntry, if_neg hh, hhigh]
  simp only [if_neg hl, hlow _ (runHalf_hwOutcome ..)]
  simp [entryDone, runHalf, emit]

/-- What a completed entry answers while the serializer is at work. -/
theorem execEntry_whole {p : PulseCode} {s : State} (hs : s.ch = .transmitting ∧ s.txn.isSome = true)
    (hh : ¬ p.dh = 0) (hl : ¬ p.dl = 0) (h : ∀ m, budget s.hwOutcome = some m → p.dh.toNat + p.dl.toNat ≤ m) :
    execEntry p s = .next (entryDone p s) := by
  rw [execEntry, if_pos hs, serializeEntry_whole hh hl h]

/-- Every outcome that lets `k` more ticks out either never cuts the waveform or cuts it after `k` ticks or more. -/
theorem le_of_budget {o : WaitResult} {k : Nat}
    (h : o = .done ∨ ∃ m, k ≤ m ∧ (o = .never m ∨ ∃ e, o = .err e m)) : ∀ m, budget o = some m → k ≤ m := by
  obtain rfl | ⟨m, hk, rfl | ⟨e, rfl⟩⟩ := h <;> rintro _ ⟨⟩
  · exact hk
  · exact hk

/-- Settles O24: both symbols last 25 ticks, so an outcome with at least 25 left lets the whole entry out. -/
theorem dataSymbolsEmitTheirSegments : Obligations.DataSymbolsEmitTheirSegments := by
  intro s hch htxn ho
  have hticks := le_of_budget ho
  exact ⟨execEntry_whole (p := encOne) ⟨hch, htxn⟩ (by decide) (by decide) hticks,
    execEntry_whole (p := encZero) ⟨hch, htxn⟩ (by decide) (by decide) hticks⟩

end Sys2Proof.Machine
end

section
/-! SUPPORT. Bit positions in a packet (R151) and the round trip through DECODE_PACKET (R154). At the end the statements on
the packet. -/

namespace Sys2Proof.Machine

/-! ## The wire word of a colour (R151) -/

theorem getElem_byteBits (v : Byte) {m : Nat} (h : m < (byteBits v).length) : (byteBits v)[m] = v.getLsbD (7 - m) := by
  simp [byteBits]

/-- The bits of green, red and blue one after the other are the bits of `{G, R, B}` from bit 23 down. -/
theorem getElem_byteBits_append (g r b : Byte) {j : Nat} (h : j < (byteBits g ++ (byteBits r ++ byteBits b)).length) :
    (byteBits g ++ (byteBits r ++ byteBits b))[j] = (g ++ r ++ b).getLsbD (23 - j) := by
  have hj : j < 24 := by simpa using h
  simp only [List.getElem_append, byteBits_length, getElem_byteBits, BitVec.getLsbD_append]
  obtain hgreen | hred | hblue : j < 8 ∨ (8 ≤ j ∧ j < 16) ∨ 16 ≤ j := by omega
  · rw [dif_pos hgreen, if_neg (by omega), if_neg (by omega)]
    congr 1; omega
  · rw [dif_neg (by omega), dif_pos (by omega), if_neg (by omega), if_pos (by omega)]
    congr 1; omega
  · rw [dif_neg (by omega), dif_neg (by omega), if_pos (by omega)]
    congr 1; omega

theorem getElem_packet (c : Color) {j : Nat} (h : j < 24) : (packet c)[j] = enc ((c.g ++ c.r ++ c.b).getLsbD (23 - j)) := by
  have hlist : (packet c)[j] = (packetCodes c)[j]'((packetCodes_length c).symm ▸ h) := rfl
  simp only [hlist, packetCodes_eq_map_byteBits, List.getElem_map, getElem_byteBits_append]

/-- Settles O13: BUILD_PACKET leaves the packet of `SCOL`, whose entry `j` is the symbol of bit `23 - j` of the wire word. -/
theorem packetBitPositions : Obligations.PacketBitPositions :=
  fun s _ h => getElem_packet s.scol h

/-! ## The round trip (R154) -/

theorem decodePacket_packet (c : Color) : decodePacket (packet c).toList = some c := by
  rw [packet_toList, decodePacket_packetCodes]

theorem packet_injective : Function.Injective packet := fun c c' h => by
  simpa [decodePacket_packet] using congrArg (fun p => decodePacket p.toList) h

/-- Settles O14: DECODE_PACKET is a left inverse of `packet`, so no two colours have one packet, and `PKT` is that of `SCOL`. -/
theorem packetRoundTrip : Obligations.PacketRoundTrip :=
  ⟨decodePacket_packet, fun _ _ h => packet_injective h, fun s => decodePacket_packet s.scol⟩

end Sys2Proof.Machine
end

section
/-! SUPPORT. What BUILD_FRAME leaves at every index (R62, R168), and how a count that fails CAPCHECK ends a command (R166, R196,
R237). At the end the statements on the capacity check and on the frame. -/

namespace Sys2Proof.Machine

/-! ## CAPCHECK and BUILD_FRAME (R166, R168) -/

/-- Settles O15: the check is one comparison, and a `MAX_LEDS` of 1 leaves no count below its bound. -/
theorem capacityBoundary : Obligations.CapacityBoundary :=
  ⟨fun _ _ => capacityExceeded_eq_false, fun _ _ h => capacityExceeded_eq_true.mpr (by omega)⟩

section

variable (m : Memory) (pkt : Vector PulseWord 24) (n : Nat)

theorem Memory.read_writeFrame_led {k j : Nat} (hk : k < n) (hj : j < 24) :
    Memory.read (Memory.writeList m 0 (frameWords pkt n)) (24 * k + j) = some pkt[j] := by
  have hi : 24 * k + j < 24 * n := by omega
  rw [Memory.read_writeList, frameWords_length, if_pos (by omega), Nat.sub_zero, frameWords_data _ _ _ hi, Nat.mul_add_mod,
    Nat.mod_eq_of_lt hj]
  simp [hj]

theorem Memory.read_writeFrame_terminator :
    Memory.read (Memory.writeList m 0 (frameWords pkt n)) (24 * n) = some termWord := by
  rw [Memory.read_writeList, frameWords_length, if_pos (by omega), Nat.sub_zero, frameWords_terminator]

theorem Memory.read_writeFrame_above {i : Nat} (hi : 24 * n + 1 ≤ i) :
    Memory.read (Memory.writeList m 0 (frameWords pkt n)) i = Memory.read m i := by
  rw [Memory.read_writeList, frameWords_length, if_neg (by omega)]

end

/-- Settles O16: the state BUILD_FRAME leaves is known exactly, and what it writes is read back index by index. -/
theorem buildFrameWritesTheFrame : Obligations.BuildFrameWritesTheFrame := by
  intro s hcap
  have hlen := frameLength s.count
  refine ⟨_, buildFrame_ok s (capacityExceeded_eq_false.mp hcap), rfl, hlen, fun k j hk hj => ?_, ?_, fun i hi => ?_⟩
  · exact Memory.read_writeFrame_led _ _ _ hk hj
  · exact Memory.read_writeFrame_terminator _ _ _
  · exact Memory.read_writeFrame_above _ _ _ (hlen.symm.trans_le hi)

/-! ## A command whose count fails the check (R196, R237, R251, R258) -/

/-- The state CapacityError leaves when WRITE_BODY on `b`, on a block that is ready, fails CAPCHECK (R257, R258). -/
def overCapacity (b : State) : State :=
  { b with
    drv := if b.params.driverSurvivesError then .ready else .unbuilt
    result := rspWord 0x01 0, rspValid := true, ctrl := .idle, ch := .idle, txn := none, inFade := false }

theorem raise_capacity {b : State} (h : b.drv = .ready) : raise .capacity { b with ctrl := .build } = overCapacity b := by
  have hdrv : driverAfter { b with ctrl := .build } .capacity =
      if b.params.driverSurvivesError then .ready else .unbuilt := by rw [driverAfter, h]
  rw [raise, hdrv]
  rfl

theorem conclude_writeBody_capacity {b : State} (h : b.drv = .ready) (hcap : b.params.maxLeds ≤ b.count.toNat + 1) :
    conclude (writeBody b) = .next (overCapacity b) := by
  rw [writeBody_capacity hcap, conclude, raise_capacity h]

/-- A fade whose first step fails ends as that step does (R237). -/
theorem fadeLoop_capacity {c : FadeChannel} {k : BitVec 9} {steps : List (FadeChannel × BitVec 9)} {s : State}
    (hcap : s.params.maxLeds ≤ s.count.toNat + 1) : fadeLoop ((c, k) :: steps) s = writeBody (fadePaint c k s) := by
  have hbody := writeBody_capacity (b := fadePaint c k s) hcap
  rw [fadeLoop, fadeStep, hbody]

/-- The first step of a fade paints the target with its blue at 0, whatever `FADE_COMPOSITE` says (R231 to R233): `FC` has just
been loaded from the target. -/
theorem fadePaint_fadeStart (c : Color) (n : BitVec 16) (s : State) :
    fadePaint .blue 0 (fadeStart c n s) =
      { fadeStart c n s with fc := ⟨c.r, c.g, 0⟩, scol := ⟨c.r, c.g, 0⟩ } := by
  have hbase : (if (fadeStart c n s).params.fadeComposite = .targetHeld ∧ (0 : BitVec 9) = 0 then (fadeStart c n s).color
      else (fadeStart c n s).fc) = c := ite_self c
  rw [fadePaint, hbase]
  rfl

/-- Settles O35: SEND and WRITE end in the check of their body, FADE in that of its first step; each time the answer is that of
raising `CapacityError`. -/
theorem capacityErrorBeforeHardware : Obligations.CapacityErrorBeforeHardware := by
  intro c br n s hready hcap
  refine ⟨?_, ?_, ?_⟩
  · rw [exec_send_ready hready]
    exact conclude_writeBody_capacity (b := sendBase c br n s) hready hcap
  · rw [exec_write_ready hready]
    exact conclude_writeBody_capacity (b := writeBase c n s) hready hcap
  · rw [exec_fade_start hready, fadeSchedule_eq_cons, fadeLoop_capacity (s := fadeStart c n s) hcap,
      fadePaint_fadeStart]
    exact conclude_writeBody_capacity hready hcap

end Sys2Proof.Machine
end

section
/-! SUPPORT. SCALE as a number (R190), the segments of a data word and of a whole frame (R202), and the waveform cut after a number
of ticks (R205). At the end of each part the statement on it. -/

namespace Sys2Proof.Machine

open Sys2Proof.Config

/-! ## SCALE (R190, R192) -/

theorem scale_toNat_le (c b : Byte) : c.toNat * (b.toNat + 1) / 256 ≤ c.toNat :=
  Nat.div_le_of_le_mul (by rw [Nat.mul_comm 256]; exact Nat.mul_le_mul_left _ b.isLt)

/-- The quotient fits a byte, so SCALE is the division of R190 without a wrap. -/
theorem scale_toNat (c b : Byte) : (scale c b).toNat = c.toNat * (b.toNat + 1) / 256 := by
  rw [scale, BitVec.toNat_ofNat, Nat.mod_eq_of_lt ((scale_toNat_le c b).trans_lt c.isLt)]

theorem scale_white (b : Byte) : scale 255 b = b := by
  apply BitVec.eq_of_toNat_eq
  rw [scale_toNat, show (255 : Byte).toNat = 255 from rfl]
  omega

theorem scale_eq_zero_iff (c b : Byte) : scale c b = 0 ↔ c.toNat * (b.toNat + 1) < 256 := by
  rw [← BitVec.toNat_inj, scale_toNat, show (0 : Byte).toNat = 0 from rfl, Nat.div_eq_zero_iff]
  omega

theorem scale_mono {c c' b b' : Byte} (hc : c ≤ c') (hb : b ≤ b') : scale c b ≤ scale c' b' := by
  rw [BitVec.le_def] at hc hb ⊢
  rw [scale_toNat, scale_toNat]
  exact Nat.div_le_div_right (Nat.mul_le_mul hc (Nat.succ_le_succ hb))

/-- Settles O10: SCALE is one division, monotone in both factors, whose quotient by 256 is at most the channel. -/
theorem scaleLaws : Obligations.ScaleLaws := by
  refine ⟨fun c b => ?_, scale_full, scale_none, fun c c' b h => scale_mono h (BitVec.le_refl b),
    fun c b b' h => scale_mono (BitVec.le_refl c) h, scale_eq_zero_iff, fun b => ⟨scale_white b, ?_⟩⟩
  · rw [BitVec.le_def, scale_toNat]; exact scale_toNat_le c b
  · simp only [scaleColor, scale_white]

/-! ## The waveform of data words and of a frame (R202, R209) -/

/-- The two segments of a bit (R132, R133). -/
def bitSegs (v : Bool) : List Seg := if v then [⟨true, T1H⟩, ⟨false, T1L⟩] else [⟨true, T0H⟩, ⟨false, T0L⟩]

theorem ofWord_enc (v : Bool) : PulseCode.ofWord (enc v) = if v then encOne else encZero := by
  cases v <;> exact PulseCode.ofWord_toWord _

theorem enc_no_zero_duration (v : Bool) : ¬ ((PulseCode.ofWord (enc v)).dh = 0 ∨ (PulseCode.ofWord (enc v)).dl = 0) := by
  rw [ofWord_enc]
  cases v <;> decide

theorem entryWave_enc (v : Bool) : entryWave (PulseCode.ofWord (enc v)) = bitSegs v := by
  rw [ofWord_enc]
  cases v <;> rfl

theorem wave_data (bs : List Bool) (ws : List PulseWord) : wave (bs.map enc ++ ws) = bs.flatMap bitSegs ++ wave ws := by
  induction bs with
  | nil => rfl
  | cons v bs ih =>
    rw [List.map_cons, List.cons_append, wave_goes_on _ (enc_no_zero_duration v), entryWave_enc, ih, List.flatMap_cons,
      List.append_assoc]

theorem termWord_zero_duration : (PulseCode.ofWord termWord).dh = 0 := by
  rw [termWord, PulseCode.ofWord_toWord]
  rfl

/-- The terminator produces no segment (R104, R202). -/
theorem wave_terminator (ws : List PulseWord) : wave (termWord :: ws) = [] := by
  rw [wave_stops ws (.inl termWord_zero_duration), entryWave_zero_high termWord_zero_duration]

/-- The bits of a frame in the order of their entries: green, red and blue of every LED (R62). -/
def frameBits (c : Color) (n : Nat) : List Bool :=
  (List.replicate n (byteBits c.g ++ (byteBits c.r ++ byteBits c.b))).flatten

theorem frameBits_length (c : Color) (n : Nat) : (frameBits c n).length = 24 * n := by
  simp [frameBits, List.length_flatten, Nat.mul_comm]

theorem map_enc_frameBits (c : Color) (n : Nat) :
    (frameBits c n).map enc = (List.replicate n (packetCodes c)).flatten := by
  rw [frameBits, List.map_flatten, List.map_replicate, packetCodes_eq_map_byteBits]

theorem frameWords_packet (c : Color) (n : Nat) : frameWords (packet c) n = (frameBits c n).map enc ++ [termWord] := by
  rw [frameWords, packet_toList, map_enc_frameBits]

theorem frameWave_eq (c : Color) (n : Nat) : frameWave c n = (frameBits c n).flatMap bitSegs := by
  rw [frameWave, frameWords_packet, wave_data, wave_terminator, List.append_nil]

theorem length_flatMap_bitSegs (bs : List Bool) : (bs.flatMap bitSegs).length = 2 * bs.length := by
  induction bs with
  | nil => rfl
  | cons v bs ih =>
    have hv : (bitSegs v).length = 2 := by cases v <;> rfl
    rw [List.flatMap_cons, List.length_append, hv, ih, List.length_cons]
    omega

theorem totalTicks_flatMap_bitSegs (bs : List Bool) : totalTicks (bs.flatMap bitSegs) = 25 * bs.length := by
  induction bs with
  | nil => rfl
  | cons v bs ih =>
    have hv : totalTicks (bitSegs v) = 25 := by cases v <;> rfl
    rw [List.flatMap_cons, totalTicks_append, hv, ih, List.length_cons]
    omega

/-- Settles O18: a frame is the symbols of its `24*n` bits and the terminator, and each symbol is two segments of 25 ticks
together. -/
theorem frameWaveform : Obligations.FrameWaveform := by
  intro c n
  rw [frameWave_eq, length_flatMap_bitSegs, totalTicks_flatMap_bitSegs, frameBits_length, ← map_enc_frameBits, List.flatMap_map]
  refine ⟨by omega, by omega, ?_⟩
  simp only [enc_injective.eq_iff]
  rfl

/-- The serializer stops at the terminator of a frame, which stands at `24*n` (R28, R62). -/
theorem wholeEntries_frame (c : Color) (n : Nat) : wholeEntries (frameWords (packet c) n) = 24 * n := by
  have hdata : ∀ w ∈ (frameBits c n).map enc, decide (¬ ((PulseCode.ofWord w).dh = 0 ∨ (PulseCode.ofWord w).dl = 0)) = true := by
    intro w hw
    obtain ⟨v, -, rfl⟩ := List.mem_map.mp hw
    exact decide_eq_true (enc_no_zero_duration v)
  rw [wholeEntries, frameWords_packet, List.takeWhile_append_of_pos hdata, List.takeWhile_cons_of_neg]
  · rw [List.append_nil, List.length_map, frameBits_length]
  · simp [termWord_zero_duration]

/-! ## Cutting a waveform (R205) -/

theorem prefixTicks_zero {ws : List Seg} (h : ∀ g ∈ ws, 1 ≤ g.ticks) : prefixTicks ws 0 = [] := by
  cases ws with
  | nil => rfl
  | cons g gs =>
    have hg := h g List.mem_cons_self
    rw [prefixTicks, if_neg (by omega), if_pos rfl]

theorem totalTicks_prefixTicks (ws : List Seg) (m : Nat) : totalTicks (prefixTicks ws m) = min m (totalTicks ws) := by
  induction ws generalizing m with
  | nil => simp [prefixTicks]
  | cons g gs ih =>
    rw [prefixTicks, totalTicks_cons]
    split_ifs with hle hm
    · rw [totalTicks_cons, ih]; omega
    · rw [totalTicks_nil, hm, Nat.zero_min]
    · show m + 0 = _; omega

/-- Whole segments, then at most one shortened segment of the next one's level. -/
theorem prefixTicks_shape (ws : List Seg) (m : Nat) :
    ∃ k, prefixTicks ws m = ws.take k ∨
      ∃ g r, ws[k]? = some g ∧ 0 < r ∧ r < g.ticks ∧ prefixTicks ws m = ws.take k ++ [⟨g.level, r⟩] := by
  induction ws generalizing m with
  | nil => exact ⟨0, .inl rfl⟩
  | cons g gs ih =>
    rw [prefixTicks]
    split_ifs with hle hm
    · obtain ⟨k, hk | ⟨g', r, hg, hr, hlt, hk⟩⟩ := ih (m - g.ticks)
      · exact ⟨k + 1, .inl (by rw [hk, List.take_succ_cons])⟩
      · exact ⟨k + 1, .inr ⟨g', r, hg, hr, hlt, by rw [hk, List.take_succ_cons, List.cons_append]⟩⟩
    · exact ⟨0, .inl rfl⟩
    · exact ⟨0, .inr ⟨g, m, rfl, by omega, by omega, rfl⟩⟩

/-- Settles O19: by induction on the segments, each of which is kept whole, shortened, or dropped. -/
theorem prefixTicksLaws : Obligations.PrefixTicksLaws := fun ws h =>
  ⟨prefixTicks_zero h, prefixTicks_of_le ws _ le_rfl, totalTicks_prefixTicks ws, prefixTicks_shape ws⟩

end Sys2Proof.Machine
end

section
/-! SUPPORT. How a transmission settles after the waveform that has reached the line, outcome by outcome (R197, R201, R205): the
whole slice, the frame of a DISPATCH, and a data symbol cut inside its own two segments. At the end of each part the statements on
it. -/

namespace Sys2Proof.Machine

open Sys2Proof.Config

/-! ## The slice from RDPTR on (R203) -/

/-- A hang is left with the ticks of `never(m)` that no segment used. -/
theorem spend_cut_never (ws : List Seg) (m : Nat) :
    spend (totalTicks (prefixTicks ws m)) (.never m) = .never (m - totalTicks ws) := by
  rw [spend_never, totalTicks_prefixTicks, WaitResult.never.injEq]
  omega

/-- Settles O20: with the outcome done nothing cuts the waveform, and the transmission settles as completed. -/
theorem serializerEmitsTheWave : Obligations.SerializerEmitsTheWave := by
  intro s ws hread hfits ho
  obtain ⟨u, hu, he, -⟩ := transmit_spec ws s hread hfits
  rw [ho] at he
  obtain ⟨rd, ph, tc, pr, rfl⟩ := he.exists_eq
  refine ⟨_, hu.trans (settle_done ?_), ?_⟩
  · simp only [ho, spend_done]
  · simp only [endTx, ho, spend_done]
    rfl

/-- Settles O21: an outcome that cuts lets exactly its ticks out, and the transmission settles as failed or hangs. -/
theorem cutSerializerEmitsThePrefix : Obligations.CutSerializerEmitsThePrefix := by
  intro s ws m hread hfits
  obtain ⟨u, hu, he, -⟩ := transmit_spec ws s hread hfits
  refine ⟨fun e ho => ?_, fun ho => ?_⟩
  · rw [ho] at he
    obtain ⟨rd, ph, tc, pr, rfl⟩ := he.exists_eq
    exact ⟨_, hu.trans (settle_err (by rw [ho, spend_err])), rfl⟩
  · have hend : u.hwOutcome = .never (m - totalTicks (wave ws)) := by
      rw [he.hwOutcome_eq, ho]; exact spend_cut_never _ _
    refine ⟨u, hu.trans (settle_never hend), ?_⟩
    rw [ho] at he
    rw [← hend]
    obtain ⟨rd, ph, tc, pr, rfl⟩ := he.exists_eq
    rfl

/-- Settles O22: a block with nothing on its ports is left alone, and its single steps follow `transmit` entry by entry. -/
theorem serializerStepsAgreeWithTransmit : Obligations.SerializerStepsAgreeWithTransmit := by
  intro s n hs hq hv hn
  have halone : LeftAlone s := ⟨by simp [Undisturbed, hq], hv⟩
  exact run_transmit n halone hs hn

/-! ## DISPATCH of a frame (R197, R199, R200) -/

theorem dispatch_begin_err {s : State} {e : BitVec 32} (h : s.beginAt 0 = .err e) :
    dispatch s = .failed (.hardware e) (beginRefused s) := by
  rw [dispatch, beginTx_err h]
  rfl

/-- Settles O23: a begin that fails ends the dispatch, and one that does not lets the waveform out as far as the wait's answer
says, which then settles it. -/
theorem dispatchOutcomes : Obligations.DispatchOutcomes := by
  intro s c n hframe
  refine ⟨fun e hb => ?_, fun hb hw => ?_, fun e m hb hw => ?_, fun m hb hw => ?_⟩
  · exact ⟨_, dispatch_begin_err hb, rfl, rfl, rfl, rfl⟩
  all_goals
    obtain ⟨u, hu, he, -⟩ := dispatch_begun hframe hb
    have hend := he.hwOutcome_eq
    rw [show (started s).hwOutcome = s.waitAt 0 from rfl, hw] at hend
    rw [hw] at he
  · refine ⟨_, hu.trans (settle_done hend), ?_, ?_, rfl, rfl⟩ <;> (rw [he]; rfl)
  · refine ⟨_, hu.trans (settle_err hend), ?_, ?_, rfl, rfl⟩ <;> (rw [he]; rfl)
  · refine ⟨_, hu.trans (settle_never hend), ?_, ?_, ?_, ?_⟩ <;> (rw [he]; rfl)

/-! ## A data symbol cut inside its two segments (R203, R205) -/

/-- An entry with fewer ticks left than it lasts: exactly those ticks are out, `RDPTR` stays, and the transmission settles. -/
theorem execEntry_cut {p : PulseCode} {s : State} {m : Nat} (hs : s.ch = .transmitting ∧ s.txn.isSome = true)
    (hb : budget s.hwOutcome = some m) (hlt : m < totalTicks (entryWave p)) :
    ∃ u, execEntry p s = resume (settle u) ∧ Emitted s (prefixTicks (entryWave p) m) u ∧ u.rdptr = s.rdptr ∧
      u.hwOutcome = spend m s.hwOutcome := by
  rw [execEntry, if_pos hs]
  obtain ⟨-, -, -, -, -, hm⟩ | ⟨-, -, -, -, -, hm⟩ | ⟨u, m', hu, hm, -, hp, he, ht⟩ := serializeEntry_cases p s
  · exact absurd (hm m hb) (Nat.not_le.mpr hlt)
  · exact absurd (hm m hb) (Nat.not_le.mpr hlt)
  · cases hb.symm.trans hm
    exact ⟨u, by rw [hu], he, hp, by rw [he.hwOutcome_eq, ht]⟩

/-- ONE and ZERO as entries: the symbol executed is one whose waveform is the two segments. -/
theorem exec_data_symbol {i : Instr} {g0 g1 : Seg}
    (h : (i = .one ∧ g0 = ⟨true, T1H⟩ ∧ g1 = ⟨false, T1L⟩) ∨ (i = .zero ∧ g0 = ⟨true, T0H⟩ ∧ g1 = ⟨false, T0L⟩)) :
    ∃ p, (∀ s, exec i s = execEntry p s) ∧ entryWave p = [g0, g1] ∧ totalTicks [g0, g1] = 25 := by
  obtain ⟨rfl, rfl, rfl⟩ | ⟨rfl, rfl, rfl⟩ := h
  · exact ⟨encOne, fun _ => rfl, rfl, rfl⟩
  · exact ⟨encZero, fun _ => rfl, rfl, rfl⟩

/-- Settles O25: both symbols last 25 ticks, so fewer ticks left cut them, and the transmission settles as failed or hangs. -/
theorem dataSymbolsAreCut : Obligations.DataSymbolsAreCut := by
  intro s m hch htxn hlt i g0 g1 hi
  obtain ⟨p, hexec, hwave, hticks⟩ := exec_data_symbol hi
  have hcut (hb : budget s.hwOutcome = some m) := execEntry_cut (p := p) ⟨hch, htxn⟩ hb (by rw [hwave, hticks]; exact hlt)
  rw [hexec, ← hwave]
  refine ⟨fun e ho => ?_, fun ho => ?_⟩
  · obtain ⟨u, hu, he, hp, hend⟩ := hcut (by rw [ho]; rfl)
    rw [ho, spend_err] at hend
    refine ⟨raise (.hardware e) (endTx u), by rw [hu, settle_err hend]; rfl, ?_⟩
    obtain ⟨rd, ph, tc, pr, rfl⟩ := he.exists_eq
    obtain rfl : rd = s.rdptr := hp
    rfl
  · obtain ⟨u, hu, he, hp, hend⟩ := hcut (by rw [ho]; rfl)
    rw [ho, spend_never, Nat.sub_self] at hend
    refine ⟨u, by rw [hu, settle_never hend]; rfl, ?_⟩
    rw [← hend]
    obtain ⟨rd, ph, tc, pr, rfl⟩ := he.exists_eq
    obtain rfl : rd = s.rdptr := hp
    rfl

/-! ## The step of the serializer (R203, R270) -/

/-- With a transaction pending and an entry at `RDPTR` that decodes to `i`, the controller goes on with `exec i` (R105). -/
theorem advance_symbol {s : State} {w : PulseWord} {i : Instr} (hs : Sending s) (hlt : s.rdptr.toNat < s.flen.toNat)
    (hread : Memory.read s.fb s.rdptr.toNat = some w) (hi : decodePulse w = some i) : advance s = exec i s := by
  have hfb : s.readFb s.rdptr.toNat = .ok w := by rw [State.readFb, hread]
  rw [advance_tx hs.1, serializerStep_word hs hlt hfb, exec_symbol hi]

/-- Settles O45: a pause is taken from the host's script, a held word stays in it, and the controller goes on either way. -/
theorem stepRunsTheFetchedEntry : Obligations.StepRunsTheFetchedEntry := by
  intro s left w i hs hlt hread hi hhost
  have hadvance : advance (s.accept left) = exec i { s with rspValid := false, hostInputs := left } :=
    advance_symbol (s := s.accept left) hs hlt hread hi
  have hbusy : s.ctrl ≠ .idle := by rw [hs.1]; decide
  obtain hq | ⟨rfl, hq | ⟨pace, v, rest, hq⟩⟩ := hhost
  · rw [step_pause hq, hadvance]
  · rw [step_nothing hq, ← hadvance]; rfl
  · rw [step_held hq hbusy, ← hadvance]; rfl

end Sys2Proof.Machine
end

section
/-! SUPPORT. When a configuration is answered ok (R131, R187), and with it what CONSTRUCT does (R185, R188). At the end the statements
on CONSTRUCT. -/

namespace Sys2Proof.Machine

open Sys2Proof.Config

/-- R131: the dividers that fit are those of 20 to 5119 MHz. -/
theorem dividerValid_iff (f : BitVec 16) : dividerValid (tickDivider f) = true ↔ 20 ≤ f.toNat ∧ f.toNat ≤ 5119 := by
  rw [dividerValid, tickDivider_eq_div, decide_eq_true_eq, MAX_DIVIDER]
  omega

/-- R187: an answer that is an error is taken as it is; `ok` stands only with a divider that fits. -/
theorem cfgResult_err {s : State} {e : BitVec 32} (h : s.cfgAt 0 = .err e) (d : Nat) : s.cfgResult d = .err e := by
  rw [State.cfgResult, h]

theorem cfgResult_ok {s : State} {d : Nat} (h : s.cfgAt 0 = .ok) (hd : dividerValid d = true) : s.cfgResult d = .ok := by
  rw [State.cfgResult, h]
  exact if_pos hd

theorem cfgResult_forced {s : State} {d : Nat} (h : s.cfgAt 0 = .ok) (hd : ¬ dividerValid d = true) :
    s.cfgResult d = .err (forcedCfgCode s.cfgDraws) := by
  rw [State.cfgResult, h]
  exact if_neg hd

/-- Driving the line and latching the operands decides nothing of the answer. -/
theorem construct_ok {f : BitVec 16} {s : State} (p : Byte) (h : s.cfgResult (tickDivider f) = .ok) :
    construct f p s =
      respondOk { configured f p s with tickDiv := BitVec.ofNat 8 (tickDivider f), drv := .ready } := by
  have h' : ({ s with line := .driven true, out := s.out ++ [Event.drive true] }.latchConstruct f p).cfgResult (tickDivider f) =
      .ok := h
  rw [construct]
  simp only [h']
  rfl

theorem construct_err {f : BitVec 16} {s : State} {e : BitVec 32} (p : Byte) (h : s.cfgResult (tickDivider f) = .err e) :
    construct f p s = raise (.config e) { configured f p s with tickDiv := 0, drv := .unbuilt } := by
  have h' : ({ s with line := .driven true, out := s.out ++ [Event.drive true] }.latchConstruct f p).cfgResult (tickDivider f) =
      .err e := h
  rw [construct]
  simp only [h']
  rfl

/-- Settles O27: the divider fits exactly from 20 to 5119 MHz, so `ok` builds the driver there, and every other case is an error,
whose code is the answer's if the answer is one. -/
theorem constructEffect : Obligations.ConstructEffect := by
  intro f p s
  refine ⟨fun lo hi hok => ?_, fun hbad => ?_⟩
  · exact congrArg Host.Outcome.next (construct_ok p (cfgResult_ok hok ((dividerValid_iff f).mpr ⟨lo, hi⟩)))
  · cases hcfg : s.cfgAt 0 with
    | err e =>
      refine ⟨e, fun e' h => by cases h; rfl, ?_⟩
      exact congrArg Host.Outcome.next (construct_err p (cfgResult_err hcfg _))
    | ok =>
      have hrange : ¬ dividerValid (tickDivider f) = true := by
        rw [dividerValid_iff]
        obtain ⟨e, he⟩ | hlo | hhi := hbad
        · cases hcfg.symm.trans he
        · omega
        · omega
      refine ⟨forcedCfgCode s.cfgDraws, nofun, ?_⟩
      exact congrArg Host.Outcome.next (construct_err p (cfgResult_forced hcfg hrange))

/-- R311: with a clock that is a multiple of 20 MHz the division of R130 is exact, and the tick is the reference tick. -/
theorem tickNs_of_multiple {t : State} (hdvd : 20 ∣ t.freqMhz.toNat) (hpos : 20 ≤ t.freqMhz.toNat)
    (hdiv : t.tickDiv.toNat = t.freqMhz.toNat / 20) : t.tickNs = (TICK_REF_NS : ℚ) := by
  obtain ⟨d, hd⟩ := hdvd
  have hd0 : (d : ℚ) ≠ 0 := by
    rw [Nat.cast_ne_zero]
    omega
  rw [State.tickNs, hdiv, hd, Nat.mul_div_cancel_left d (by decide), TICK_REF_NS]
  push_cast
  field_simp
  norm_num

/-- Settles O28: of the two endings of CONSTRUCT only the one with a divider that fits answers OK, and an idle block of the invariant
has an idle channel and no transaction. -/
theorem constructLeavesAReadyDriver : Obligations.ConstructLeavesAReadyDriver := by
  intro f p s t hinv hidle hexec hstatus
  obtain rfl : construct f p s = t := by cases hexec; rfl
  obtain ⟨hch, htxn, -⟩ := hinv.idle_quiet hidle
  obtain ⟨hv, hc⟩ | ⟨e, hc⟩ := construct_cases f p s <;> rw [hc] at hstatus ⊢
  · have hrange := (dividerValid_iff f).mp hv
    have hdiv : (BitVec.ofNat 8 (tickDivider f)).toNat = f.toNat / 20 := by
      rw [BitVec.toNat_ofNat, tickDivider_eq_div]
      omega
    refine ⟨rfl, ?_, ?_, hch, htxn, rfl, rfl, rfl, hrange.1, hrange.2, fun h20 => tickNs_of_multiple h20 hrange.1 hdiv⟩
    · exact hdiv.symm ▸ by omega
    · exact hdiv.symm ▸ by omega
  · exact absurd ((rspWord_status 0x03 e).symm.trans hstatus) (by decide)

end Sys2Proof.Machine
end

section
/-! SUPPORT. WRITE_BODY with a count that passes the check, answer by answer of the oracle (R195, R199 to R201). At the end the
statements on SEND and WRITE. -/

namespace Sys2Proof.Machine

open Sys2Proof.Config

/-! ## WRITE_BODY, answer by answer (R195, R201) -/

/-- The frame of `b` stands in every state with the `PKT`, `FB` and `FLEN` of its build (R168). -/
theorem built_of_eq {b t : State} (hl : t.flen = (builtFrom b).flen) (hk : t.pkt = (builtFrom b).pkt)
    (hm : t.fb = (builtFrom b).fb) : Built b t where
  frame := (builtFrom_holds b).congr hl hk hm
  rest := fun i hi => by rw [hm]; exact builtFrom_rest b i hi

/-- `b` after WRITE_BODY has completed; the serializer's working registers are any (R201 row `done`). -/
def bodySent (b : State) (ph : Phase) (tc : BitVec 15) (pr : Byte) : State :=
  { b with
    pkt := packet b.scol
    fb := (builtFrom b).fb
    flen := (builtFrom b).flen
    ctrl := .tx
    ch := .idle
    txn := none
    rdptr := BitVec.ofNat 21 (24 * b.count.toNat)
    phase := ph
    tickcnt := tc
    presc := pr
    line := .driven b.params.idleAfterTx
    out := b.out ++ frameEvents b.scol b.count.toNat
    beginAnswers := b.beginAnswers.tail
    beginDraws := b.beginDraws + 1
    waitAnswers := b.waitAnswers.tail
    waitDraws := b.waitDraws + 1
    hwOutcome := .done }

section
variable {b : State} (hcap : b.count.toNat + 2 ≤ b.params.maxLeds)
include hcap

/-- R199: turned away at the begin. -/
theorem writeBody_begin_err {e : BitVec 32} (hb : b.beginAt 0 = .err e) :
    writeBody b = .failed (.hardware e) (beginRefused (builtFrom b)) := by
  rw [writeBody_built hcap]
  exact dispatch_begin_err hb

/-- R200: begun, the frame's waveform is out as far as the answer of the wait lets it, and the transmission settles. -/
theorem writeBody_begun (hb : b.beginAt 0 = .ok) :
    ∃ u, writeBody b = settle u ∧
      Emitted (started (builtFrom b)) (cutWave (b.waitAt 0) (frameWave b.scol b.count.toNat)) u ∧
      u.hwOutcome = spend (totalTicks (cutWave (b.waitAt 0) (frameWave b.scol b.count.toNat))) (b.waitAt 0) ∧
      (b.waitAt 0 = .done → u.rdptr = BitVec.ofNat 21 (24 * b.count.toNat)) := by
  obtain ⟨u, hu, he, -, hrd⟩ := dispatch_begun (builtFrom_holds b) (show (builtFrom b).beginAt 0 = .ok from hb)
  refine ⟨u, (writeBody_built hcap).trans hu, he, he.hwOutcome_eq, fun hw => ?_⟩
  have hstop := hrd (by rw [show (builtFrom b).waitAt 0 = .done from hw]; nofun)
  rw [wholeEntries_frame] at hstop
  rw [← hstop, BitVec.ofNat_toNat, BitVec.setWidth_eq]

theorem writeBody_completes (hb : b.beginAt 0 = .ok) (hw : b.waitAt 0 = .done) :
    ∃ ph tc pr, writeBody b = .done (bodySent b ph tc pr) := by
  obtain ⟨u, hu, he, hend, hrd⟩ := writeBody_begun hcap hb
  rw [hw] at he hend
  obtain ⟨rd, ph, tc, pr, rfl⟩ := he.exists_eq
  obtain rfl := hrd hw
  refine ⟨ph, tc, pr, ?_⟩
  have ho : (started (builtFrom b)).hwOutcome = .done := hw
  rw [hu, settle_done hend, bodySent, frameEvents, ← List.append_assoc]
  simp only [endTx, ho, spend_done]
  rfl

theorem conclude_writeBody_completes (hb : b.beginAt 0 = .ok) (hw : b.waitAt 0 = .done) :
    ∃ t, conclude (writeBody b) = .next t ∧ Completed b t := by
  obtain ⟨ph, tc, pr, h⟩ := writeBody_completes hcap hb hw
  exact ⟨respondOk (bodySent b ph tc pr), congrArg conclude h, rfl, built_of_eq rfl rfl rfl⟩

theorem conclude_writeBody_begin_err {e : BitVec 32} (hb : b.beginAt 0 = .err e) :
    ∃ t, conclude (writeBody b) = .next t ∧ BeginFailed e b t :=
  ⟨_, congrArg conclude (writeBody_begin_err hcap hb), rfl, built_of_eq rfl rfl rfl⟩

theorem conclude_writeBody_wait_err {e : BitVec 32} {m : Nat} (hb : b.beginAt 0 = .ok) (hw : b.waitAt 0 = .err e m) :
    ∃ t, conclude (writeBody b) = .next t ∧ WaitFailed e m b t := by
  obtain ⟨u, hu, he, hend, -⟩ := writeBody_begun hcap hb
  rw [hw] at he hend
  obtain ⟨rd, ph, tc, pr, rfl⟩ := he.exists_eq
  exact ⟨_, congrArg conclude (hu.trans (settle_err hend)), rfl, built_of_eq rfl rfl rfl⟩

theorem conclude_writeBody_hangs {m : Nat} (hb : b.beginAt 0 = .ok) (hw : b.waitAt 0 = .never m) :
    ∃ t, conclude (writeBody b) = .next t ∧ HangsAfter m b t := by
  obtain ⟨u, hu, he, hend, -⟩ := writeBody_begun hcap hb
  rw [hw] at he hend
  have hleft := hend.trans (spend_cut_never _ m)
  refine ⟨u, congrArg conclude (hu.trans (settle_never hleft)), ?_, ?_⟩
  · rw [← hleft]
    obtain ⟨rd, ph, tc, pr, rfl⟩ := he.exists_eq
    rfl
  · obtain ⟨rd, ph, tc, pr, rfl⟩ := he.exists_eq
    exact built_of_eq rfl rfl rfl

end

/-! ## SEND and WRITE (R191, R194) -/

/-- Settles O29: the frame is built and sent whole, and the command responds OK. -/
theorem writeCompletes : Obligations.WriteCompletes := by
  intro c n s hready hcap hb hw
  rw [exec_write_ready hready]
  exact conclude_writeBody_completes (b := writeBase c n s) hcap hb hw

/-- Settles O30: as WRITE, from the base with the scaled colour. -/
theorem sendCompletes : Obligations.SendCompletes := by
  intro c br n s hready hcap hb hw
  rw [exec_send_ready hready]
  exact conclude_writeBody_completes (b := sendBase c br n s) hcap hb hw

/-- Settles O31: the frame is built, and the begin that is turned away raises the hardware error. -/
theorem sendAndWriteBeginError : Obligations.SendAndWriteBeginError := by
  intro c br n s e hready hcap hb
  rw [exec_send_ready hready, exec_write_ready hready]
  exact ⟨conclude_writeBody_begin_err (b := sendBase c br n s) hcap hb,
    conclude_writeBody_begin_err (b := writeBase c n s) hcap hb⟩

/-- Settles O32: the first `m` ticks are out when the transmission settles as failed. -/
theorem sendAndWriteWaitError : Obligations.SendAndWriteWaitError := by
  intro c br n s e m hready hcap hb hw
  rw [exec_send_ready hready, exec_write_ready hready]
  exact ⟨conclude_writeBody_wait_err (b := sendBase c br n s) hcap hb hw,
    conclude_writeBody_wait_err (b := writeBase c n s) hcap hb hw⟩

/-- Settles O33: the first `m` ticks are out when the transmission hangs. -/
theorem sendAndWriteHang : Obligations.SendAndWriteHang := by
  intro c br n s m hready hcap hb hw
  rw [exec_send_ready hready, exec_write_ready hready]
  exact ⟨conclude_writeBody_hangs (b := sendBase c br n s) hcap hb hw,
    conclude_writeBody_hangs (b := writeBase c n s) hcap hb hw⟩

end Sys2Proof.Machine
end

section
/-! SUPPORT. What SEND and WRITE leave as it was in every ending (R44, R76), and what a response of status OK says of the trace
(R206, R263). At the end of each part the statements on it. -/

namespace Sys2Proof.Machine

open Sys2Proof.Config

/-! ## What WRITE_BODY leaves as it was (R44, R63) -/

/-- The registers that SEND and WRITE neither write nor read, beside those of `Steady`: `BRI` as it is latched, the fade's, the delay
timer, the host's script and the oracle's answers on configurations. -/
def bystanders (s : State) :
    Byte × Color × FadeChannel × BitVec 9 × Nat × List HostInput × List HwResult × Nat :=
  (s.bri, s.fc, s.fch, s.fstep, s.dly, s.hostInputs, s.cfgAnswers, s.cfgDraws)

/-- A command that builds from `b` and leaves `t` has left the bystanders and the entries above the frame. -/
structure KeepsRest (b t : State) : Prop where
  registers : bystanders t = bystanders b
  above : ∀ i, 24 * b.count.toNat < i → Memory.read t.fb i = Memory.read b.fb i

/-- While it is at work the command delivers no response either. -/
structure AtWorkKeeps (b t : State) : Prop extends KeepsRest b t where
  rspValid : t.rspValid = b.rspValid

theorem writeBody_keeps (b : State) : (writeBody b).Leaves (AtWorkKeeps b) (AtWorkKeeps b) (AtWorkKeeps b) := by
  obtain hf | ⟨-, ⟨e, hf⟩ | ⟨u, ws, hf, he, -⟩⟩ := writeBody_cases b <;> rw [hf]
  · exact .failed ⟨⟨rfl, fun _ _ => rfl⟩, rfl⟩
  · exact .failed ⟨⟨rfl, builtFrom_rest b⟩, rfl⟩
  · obtain ⟨rd, ph, tc, pr, rfl⟩ := he.exists_eq
    exact settle_leaves ⟨⟨rfl, builtFrom_rest b⟩, rfl⟩ ⟨⟨rfl, builtFrom_rest b⟩, rfl⟩ ⟨⟨rfl, builtFrom_rest b⟩, rfl⟩

theorem conclude_writeBody_keeps {b t : State} (h : conclude (writeBody b) = .next t) : KeepsRest b t :=
  (conclude_answers (P := KeepsRest b) (writeBody_keeps b) (fun _ hu => ⟨hu.registers, hu.above⟩)
    (fun _ _ hu => ⟨hu.registers, hu.above⟩) fun _ hu => hu.toKeepsRest).of_next h

theorem exec_send_keeps {c : Color} {br : Byte} {n : BitVec 16} {s t : State} (h : exec (.send c br n) s = .next t) :
    KeepsRest (sendBase c br n s) t := by
  cases hd : s.drv with
  | unbuilt => rw [exec_send_unbuilt hd] at h; cases h; exact ⟨rfl, fun _ _ => rfl⟩
  | ready => rw [exec_send_ready hd] at h; exact conclude_writeBody_keeps h

theorem exec_write_keeps {c : Color} {n : BitVec 16} {s t : State} (h : exec (.write c n) s = .next t) :
    KeepsRest (writeBase c n s) t := by
  cases hd : s.drv with
  | unbuilt => rw [exec_write_unbuilt hd] at h; cases h; exact ⟨rfl, fun _ _ => rfl⟩
  | ready => rw [exec_write_ready hd] at h; exact conclude_writeBody_keeps h

/-- Without a driver, or with a count that fails the check, no frame is built and nothing is emitted (R167, R254). -/
theorem exec_turned_away {c : Color} {br : Byte} {n : BitVec 16} {s t : State}
    (hexec : exec (.send c br n) s = .next t ∨ exec (.write c n) s = .next t)
    (h : s.drv = .unbuilt ∨ s.params.maxLeds ≤ n.toNat + 1) :
    t.fb = s.fb ∧ t.flen = s.flen ∧ t.pkt = s.pkt ∧ t.out = s.out := by
  cases hd : s.drv with
  | unbuilt =>
    rw [exec_send_unbuilt hd, exec_write_unbuilt hd] at hexec
    obtain h | h := hexec <;> (cases h; exact ⟨rfl, rfl, rfl, rfl⟩)
  | ready =>
    have hcap := h.resolve_left (by rw [hd]; decide)
    obtain ⟨hsend, hwrite, -⟩ := capacityErrorBeforeHardware c br n s hd hcap
    rw [hsend, hwrite] at hexec
    obtain h | h := hexec <;> (cases h; exact ⟨rfl, rfl, rfl, rfl⟩)

/-- Settles O37: no ending of WRITE_BODY touches the bystanders or the entries above its frame, and a command that is turned away
before the build touches nothing of the frame. -/
theorem sendAndWriteLeaveTheRest : Obligations.SendAndWriteLeaveTheRest := by
  intro c br n s t hexec
  have hsteady : Steady s t := by
    obtain h | h := hexec <;> exact (exec_steady s rfl (by rintro _ _ ⟨⟩)).of_next h
  have hrest : ∃ b, KeepsRest b t ∧ b.count = n ∧ b.fb = s.fb ∧ (bystanders b).2 = (bystanders s).2 := by
    obtain h | h := hexec
    · exact ⟨_, exec_send_keeps h, rfl, rfl, rfl⟩
    · exact ⟨_, exec_write_keeps h, rfl, rfl, rfl⟩
  obtain ⟨b, hkeeps, hcount, hfb, hsame⟩ := hrest
  have hregs : (bystanders t).2 = (bystanders s).2 := (congrArg Prod.snd hkeeps.registers).trans hsame
  simp only [bystanders, Prod.mk.injEq] at hregs
  obtain ⟨hfc, hfch, hfstep, hdly, hhost, hcfg, hdraws⟩ := hregs
  refine ⟨⟨hsteady.freqMhz, hsteady.pin, hsteady.tickDiv, hfc, hfch, hfstep, hdly, hsteady.params, hhost, hcfg, hdraws⟩,
    fun hwrite => congrArg Prod.fst (exec_write_keeps hwrite).registers, fun i hi => ?_, exec_turned_away hexec⟩
  rw [← hfb]
  exact hkeeps.above i (by rw [hcount]; exact hi)

/-! ## What OK says (R206, R263) -/

theorem raise_status (e : Err) (s : State) : (raise e s).status = e.status := rspWord_status _ _

theorem Err.status_ne_ok (e : Err) : e.status ≠ statusOk := by cases e <;> (rw [Err.status]; decide)

theorem raise_status_ne_ok (e : Err) (s : State) : (raise e s).status ≠ statusOk := by
  rw [raise_status]
  exact e.status_ne_ok

/-- Of a command's endings only completion responds OK: an error responds with its own status, and a hang does not respond. -/
theorem conclude_ok {D F : State → Prop} {f : Flow} {t : State} (hf : f.Leaves D F (·.rspValid = false))
    (h : conclude f = .next t) (hv : t.rspValid = true) (hs : t.status = statusOk) : ∃ u, f = .done u ∧ t = respondOk u := by
  cases hf with
  | done _ => cases h; exact ⟨_, rfl, rfl⟩
  | failed _ => cases h; exact absurd hs (raise_status_ne_ok _ _)
  | hung hsilent => cases h; cases hsilent.symm.trans hv

/-- WRITE_BODY itself delivers no response. -/
theorem writeBody_silent {b : State} (h : b.rspValid = false) :
    (writeBody b).Leaves (·.rspValid = false) (fun _ => True) (·.rspValid = false) := by
  have hkeeps := writeBody_keeps b
  generalize writeBody b = f at hkeeps
  cases hkeeps with
  | done hk => exact .done (hk.rspValid.trans h)
  | failed _ => exact .failed trivial
  | hung hk => exact .hung (hk.rspValid.trans h)

/-- Only the answers of a whole transmission let WRITE_BODY complete (R201). -/
theorem writeBody_done {b u : State} (h : writeBody b = .done u) : ∃ ph tc pr, u = bodySent b ph tc pr := by
  by_cases hcap : b.count.toNat + 2 ≤ b.params.maxLeds
  · cases hb : b.beginAt 0 with
    | err e => rw [writeBody_begin_err hcap hb] at h; cases h
    | ok =>
      obtain ⟨v, hv, -, hend, -⟩ := writeBody_begun hcap hb
      cases hw : b.waitAt 0 with
      | done =>
        obtain ⟨ph, tc, pr, hsent⟩ := writeBody_completes hcap hb hw
        rw [hsent] at h
        cases h
        exact ⟨ph, tc, pr, rfl⟩
      | err e m => rw [hw] at hend; rw [hv, settle_err hend] at h; cases h
      | never m => rw [hw] at hend; rw [hv, settle_never hend] at h; cases h
  · rw [writeBody_capacity (by omega)] at h; cases h

theorem conclude_writeBody_ok {b t : State} (hsilent : b.rspValid = false) (h : conclude (writeBody b) = .next t)
    (hv : t.rspValid = true) (hs : t.status = statusOk) : t.out = b.out ++ frameEvents b.scol b.count.toNat := by
  obtain ⟨u, hu, rfl⟩ := conclude_ok (writeBody_silent hsilent) h hv hs
  obtain ⟨ph, tc, pr, rfl⟩ := writeBody_done hu
  rfl

/-- Settles O38: OK comes from a completed WRITE_BODY, which has sent the whole frame. -/
theorem okMeansTheWholeFrameWasSent : Obligations.OkMeansTheWholeFrameWasSent := by
  intro c br n s t hsilent
  cases hd : s.drv with
  | unbuilt =>
    rw [exec_write_unbuilt hd, exec_send_unbuilt hd]
    constructor <;> (intro h _ hs; cases h; exact absurd hs (raise_status_ne_ok _ _))
  | ready =>
    rw [exec_write_ready hd, exec_send_ready hd]
    exact ⟨conclude_writeBody_ok (b := writeBase c n s) hsilent, conclude_writeBody_ok (b := sendBase c br n s) hsilent⟩

/-! ## A fade that responds OK (R233, R235, R236) -/

/-- What a fade needs of the state before a step: the colour painted is that of R233. -/
def PaintsComposite (s : State) (ck : FadeChannel × BitVec 9) : Prop :=
  (fadePaint ck.1 ck.2 s).fc = compositeColor s.params s.color ck.1 ck.2

theorem fadePaint_fc (c : FadeChannel) (k : BitVec 9) (s : State) :
    (fadePaint c k s).fc =
      Color.setChan (if s.params.fadeComposite = .targetHeld ∧ k = 0 then s.color else s.fc) c (ramp k) := rfl

/-- At the first step of all `FC` has just been loaded from the target (R231). -/
theorem paintsComposite_first {s : State} (h : s.fc = s.color) : PaintsComposite s (.blue, 0) := by
  rw [PaintsComposite, fadePaint_fc, h, ite_self]
  cases s.params.fadeComposite <;> rfl

/-- The controller goes on within the channel, or from the channel's last step to the first of the next channel (R230). -/
theorem nextFadeStep_cases {c d : FadeChannel} {k l : BitVec 9} (hk : k.toNat < FADE_STEPS)
    (h : nextFadeStep c k = some (d, l)) :
    (l = k + 1 ∧ l ≠ 0 ∧ d = c) ∨ (k = 509 ∧ l = 0 ∧ (c = .blue ∧ d = .green ∨ c = .green ∧ d = .red)) := by
  rw [FADE_STEPS] at hk
  unfold nextFadeStep at h
  rw [FADE_STEPS] at h
  split at h
  · rename_i hlt
    cases h
    exact .inl ⟨rfl, by bv_omega, rfl⟩
  · have hlast : k = 509 := by bv_omega
    cases c with
    | blue => cases h; exact .inr ⟨hlast, rfl, .inl ⟨rfl, rfl⟩⟩
    | green => cases h; exact .inr ⟨hlast, rfl, .inr ⟨rfl, rfl⟩⟩
    | red => cases h

/-- At every other step `FC` has the composite of the step before: within a channel only the ramped value is new, and at the start of
a channel the ramp before it has ended at 1 (R232, R233). -/
theorem paintsComposite_next {s : State} {c d : FadeChannel} {k l : BitVec 9} (hk : k.toNat < FADE_STEPS)
    (hfc : s.fc = compositeColor s.params s.color c k) (h : nextFadeStep c k = some (d, l)) : PaintsComposite s (d, l) := by
  rw [PaintsComposite, fadePaint_fc, hfc]
  unfold compositeColor
  obtain ⟨-, hl, rfl⟩ | ⟨rfl, rfl, ⟨rfl, rfl⟩ | ⟨rfl, rfl⟩⟩ := nextFadeStep_cases hk h
  · rw [if_neg fun hreload => hl hreload.2]
    cases s.params.fadeComposite <;> cases d <;> rfl
  · cases s.params.fadeComposite <;> rfl
  · cases s.params.fadeComposite <;> rfl

/-- One completed step of a fade puts its frame, `End` and the delay on `OUT`, and leaves `FC` and `SCOL` as painted (R235). -/
theorem fadeStep_done {c : FadeChannel} {k : BitVec 9} {s t : State} (h : fadeStep c k s = .done t) :
    ∃ ph tc pr, t = runDelay (enterDelay (bodySent (fadePaint c k s) ph tc pr)) := by
  rw [fadeStep] at h
  cases hw : writeBody (fadePaint c k s) with
  | done u =>
    rw [hw] at h
    cases h
    obtain ⟨ph, tc, pr, rfl⟩ := writeBody_done hw
    exact ⟨ph, tc, pr, rfl⟩
  | failed e u => rw [hw] at h; cases h
  | hung u => rw [hw] at h; cases h
  | faulted x => rw [hw] at h; cases h

/-- From any step of the schedule whose colour is painted right, a fade that completes has sent the rest of its frames. -/
theorem fadeLoop_done (steps : List (FadeChannel × BitVec 9)) {s t : State} (hl : steps <:+ fadeSchedule)
    (hpaint : ∀ ck, steps.head? = some ck → PaintsComposite s ck) (h : fadeLoop steps s = .done t) :
    t.out = s.out ++ fadeEvents s.params s.color s.count.toNat steps := by
  induction steps generalizing s with
  | nil => cases h; exact (List.append_nil _).symm
  | cons ck rest ih =>
    obtain ⟨c, k⟩ := ck
    rw [fadeLoop] at h
    cases hstep : fadeStep c k s with
    | done u =>
      rw [hstep] at h
      obtain ⟨ph, tc, pr, hu⟩ := fadeStep_done hstep
      have hfc : (fadePaint c k s).fc = compositeColor s.params s.color c k := hpaint _ rfl
      have hnext : ∀ ck, rest.head? = some ck → PaintsComposite u ck := fun ck hck => by
        refine paintsComposite_next (fadeSchedule_step_lt (hl.subset List.mem_cons_self)) ?_ ((nextFadeStep_head hl).trans hck)
        rw [hu]
        exact hfc
      have hout : u.out = s.out ++ (frameEvents (compositeColor s.params s.color c k) s.count.toNat ++ [.delay FADE_DELAY_MS]) := by
        rw [hu, ← hfc, ← List.append_assoc]
        rfl
      have hrest := ih ((List.suffix_cons _ _).trans hl) hnext h
      rw [hrest, hout, List.append_assoc, hu]
      rfl
    | failed e u => rw [hstep] at h; cases h
    | hung u => rw [hstep] at h; cases h
    | faulted x => rw [hstep] at h; cases h

/-- No response is delivered inside a fade. -/
theorem fadeLoop_silent (steps : List (FadeChannel × BitVec 9)) {s : State} (h : s.rspValid = false) :
    (fadeLoop steps s).Leaves (·.rspValid = false) (fun _ => True) (·.rspValid = false) :=
  fadeLoop_leaves h fun _ _ _ hu => fadeStep_leaves (writeBody_silent hu) fun _ hv => hv

/-- Settles O42: OK comes from a completed loop, each of whose 1530 steps has sent its frame and delayed. -/
theorem okFadeSentEveryFrame : Obligations.OkFadeSentEveryFrame := by
  intro c n s t hsilent h hv hs
  cases hd : s.drv with
  | unbuilt => rw [exec_fade_unbuilt hd] at h; cases h; exact absurd hs (raise_status_ne_ok _ _)
  | ready =>
    rw [exec_fade_start hd] at h
    obtain ⟨u, hu, rfl⟩ := conclude_ok (fadeLoop_silent (s := fadeStart c n s) fadeSchedule hsilent) h hv hs
    have hfirst : ∀ ck, fadeSchedule.head? = some ck → PaintsComposite (fadeStart c n s) ck := fun ck hck => by
      rw [fadeSchedule_eq_cons, List.head?_cons, Option.some.injEq] at hck
      rw [← hck]
      exact paintsComposite_first rfl
    exact fadeLoop_done (s := fadeStart c n s) (t := u) fadeSchedule List.suffix_rfl hfirst hu

end Sys2Proof.Machine
end

section
/-! SUPPORT. A fade step by step: the ramp (R232), the order of the schedule (R230, R234), the colours that painting gives (R233),
and the loop followed to a step of the schedule when every answer before it is good (R235 to R237, R268). At the end of each part
the statements on it. -/

namespace Sys2Proof.Machine

open Sys2Proof.Config

/-! ## The ramp (R232) -/

theorem ramp_up {k : BitVec 9} (h : k.toNat ≤ 254) : (ramp k).toNat = k.toNat := by
  rw [ramp, if_pos h, BitVec.toNat_ofNat]
  omega

theorem ramp_down {k : BitVec 9} (h : 255 ≤ k.toNat) : (ramp k).toNat = 510 - k.toNat := by
  rw [ramp, if_neg (by omega), BitVec.toNat_ofNat]
  omega

/-- The two halves meet at 255 and leave no step out, so adjacent values differ by one also where the ramp turns. -/
theorem ramp_unit_step {k : BitVec 9} (h : k.toNat < 509) :
    (ramp (k + 1)).toNat = (ramp k).toNat + 1 ∨ (ramp (k + 1)).toNat + 1 = (ramp k).toNat := by
  have hnext : (k + 1).toNat = k.toNat + 1 := by bv_omega
  by_cases hup : k.toNat ≤ 253
  · rw [ramp_up (by omega), ramp_up (by omega)]; omega
  by_cases hturn : k.toNat = 254
  · rw [ramp_down (by omega), ramp_up (by omega)]; omega
  · rw [ramp_down (by omega), ramp_down (by omega)]; omega

/-- Settles O11: each half is linear, and the values where the halves begin and end are evaluated. -/
theorem rampValues : Obligations.RampValues :=
  ⟨fun _ => ramp_up, fun _ h _ => ramp_down h, fun _ => ramp_unit_step, by decide, by decide, by decide, by decide, by decide⟩

/-! ## The schedule (R230, R234) -/

theorem fadeSchedule_length : fadeSchedule.length = 1530 := by
  simp [fadeSchedule, FADE_STEPS]

/-- Settles O12: the step at every index is known, and with it the one after it. -/
theorem fadeScheduleOrder : Obligations.FadeScheduleOrder := by
  refine ⟨fadeSchedule_length, fun j hj => ?_, fun j hj => ?_, fun j hj => ?_, fun j c k => nextFadeStep_schedule⟩
  · rw [fadeSchedule_getElem?, if_pos hj]
  · rw [fadeSchedule_getElem?, if_neg (by omega), if_pos (by omega), Nat.add_sub_cancel_left]
  · rw [fadeSchedule_getElem?, if_neg (by omega), if_neg (by omega), if_pos (by omega), Nat.add_sub_cancel_left]

/-- Every step but the first is the successor of the one before it. -/
theorem fadeSchedule_pred {j : Nat} {d : FadeChannel} {l : BitVec 9} (h : fadeSchedule[j + 1]? = some (d, l)) :
    ∃ c k, fadeSchedule[j]? = some (c, k) ∧ k.toNat < FADE_STEPS ∧ nextFadeStep c k = some (d, l) := by
  cases hj : fadeSchedule[j]? with
  | none => cases (List.getElem?_eq_none (Nat.le_succ_of_le (List.getElem?_eq_none_iff.mp hj))).symm.trans h
  | some ck => exact ⟨ck.1, ck.2, rfl, fadeSchedule_step_lt (List.mem_of_getElem? hj), (nextFadeStep_schedule hj).trans h⟩

/-! ## Painting (R231 to R233) -/

/-- `s` after the steps before step `j` have been painted, with nothing between them. -/
def paintedUpTo (j : Nat) (s : State) : State := (fadeSchedule.take j).foldl (fun u ck => fadePaint ck.1 ck.2 u) s

theorem paintedUpTo_succ {j : Nat} {c : FadeChannel} {k : BitVec 9} (s : State) (h : fadeSchedule[j]? = some (c, k)) :
    paintedUpTo (j + 1) s = fadePaint c k (paintedUpTo j s) := by
  rw [paintedUpTo, List.take_add_one, h, List.foldl_append]
  rfl

/-- Painting leaves the target and the parameters, so every step finds what its colour needs. -/
theorem paintedUpTo_paintsComposite {s : State} (h : s.fc = s.color) (j : Nat) {c : FadeChannel} {k : BitVec 9}
    (hj : fadeSchedule[j]? = some (c, k)) :
    PaintsComposite (paintedUpTo j s) (c, k) ∧ (paintedUpTo j s).params = s.params ∧ (paintedUpTo j s).color = s.color := by
  induction j generalizing c k with
  | zero =>
    cases (fadeSchedule_getElem? 0).symm.trans hj
    exact ⟨paintsComposite_first h, rfl, rfl⟩
  | succ j ih =>
    obtain ⟨c', k', hj', hk', hnext⟩ := fadeSchedule_pred hj
    obtain ⟨hpaint, hparams, hcolor⟩ := ih hj'
    rw [paintedUpTo_succ s hj']
    exact ⟨paintsComposite_next hk' hpaint hnext, hparams, hcolor⟩

/-- Settles O43: by induction on the steps, `FC` has the composite colour of each, and the painting copies it to `SCOL`. -/
theorem paintingFollowsTheCompositeTable : Obligations.PaintingFollowsTheCompositeTable := by
  intro s j c k h hj
  obtain ⟨hpaint, hparams, hcolor⟩ := paintedUpTo_paintsComposite h j hj
  rw [← hparams, ← hcolor, ← hpaint]
  exact congrArg State.scol (paintedUpTo_succ s hj)

/-! ## One step of the loop (R235, R237) -/

theorem fadePaint_of_paintsComposite {s : State} {c : FadeChannel} {k : BitVec 9} (h : PaintsComposite s (c, k)) :
    fadePaint c k s =
      { s with fch := c, fstep := k, fc := compositeColor s.params s.color c k, scol := compositeColor s.params s.color c k } := by
  rw [← h]
  rfl

/-- `b`, painted for a step, after the step has completed; the serializer's working registers are any (R235). -/
def stepSent (b : State) (ph : Phase) (tc : BitVec 15) (pr : Byte) : State := runDelay (enterDelay (bodySent b ph tc pr))

/-- WRITE_BODY completes on good answers only (R201). -/
theorem answers_of_writeBody_done {b u : State} (h : writeBody b = .done u) : b.beginAt 0 = .ok ∧ b.waitAt 0 = .done := by
  obtain hf | ⟨hcap, -⟩ := writeBody_cases b
  · cases hf.symm.trans h
  cases hb : b.beginAt 0 with
  | err e => cases (writeBody_begin_err hcap hb).symm.trans h
  | ok =>
    obtain ⟨v, hv, -, hend, -⟩ := writeBody_begun hcap hb
    cases hw : b.waitAt 0 with
    | done => exact ⟨rfl, rfl⟩
    | err e m => rw [hw] at hend; cases ((settle_err hend).symm.trans hv.symm).trans h
    | never m => rw [hw] at hend; cases ((settle_never hend).symm.trans hv.symm).trans h

section
variable {c : FadeChannel} {k : BitVec 9} {s b : State} (steps : List (FadeChannel × BitVec 9)) (hpaint : fadePaint c k s = b)
include hpaint

/-- Good answers complete a step, and the loop goes on after it (R236). -/
theorem fadeLoop_goes_on (hcap : b.count.toNat + 2 ≤ b.params.maxLeds) (hb : b.beginAt 0 = .ok) (hw : b.waitAt 0 = .done) :
    ∃ ph tc pr, fadeLoop ((c, k) :: steps) s = fadeLoop steps (stepSent b ph tc pr) := by
  obtain ⟨ph, tc, pr, hbody⟩ := writeBody_completes hcap hb hw
  refine ⟨ph, tc, pr, ?_⟩
  rw [fadeLoop, fadeStep, hpaint, hbody]
  rfl

/-- A step whose write does not complete ends the loop as the write ended: no delay, no further step (R237). -/
theorem fadeLoop_stops (h : ¬ (b.beginAt 0 = .ok ∧ b.waitAt 0 = .done)) :
    fadeLoop ((c, k) :: steps) s = writeBody b := by
  rw [fadeLoop, fadeStep, hpaint]
  cases hbody : writeBody b with
  | done u => exact absurd (answers_of_writeBody_done hbody) h
  | failed e u => rfl
  | hung u => rfl
  | faulted f => rfl

end

/-! ## The loop up to a step (R230, R236) -/

theorem fadeSchedule_drop {j : Nat} {c : FadeChannel} {k : BitVec 9} (h : fadeSchedule[j]? = some (c, k)) :
    fadeSchedule.drop j = (c, k) :: fadeSchedule.drop (j + 1) := by
  rw [← List.tail_drop]
  exact List.eq_cons_of_mem_head? (by rw [List.head?_drop]; exact h)

theorem fadeEvents_take_succ {p : Params} {c : Color} {n j : Nat} {ch : FadeChannel} {k : BitVec 9}
    (h : fadeSchedule[j]? = some (ch, k)) :
    fadeEvents p c n (fadeSchedule.take (j + 1)) =
      fadeEvents p c n (fadeSchedule.take j) ++ (frameEvents (compositeColor p c ch k) n ++ [.delay FADE_DELAY_MS]) := by
  rw [fadeEvents, List.take_add_one, h, List.flatMap_append, Option.toList_some, List.flatMap_singleton]
  rfl

/-- The loop of a fade of `c` on `s` has come to step `j` of the schedule, which is `(ch, k)`, with the state `v`; `u` is where
`fadeBase` takes from what step `j` overwrites. -/
structure ReachesStep (c : Color) (n : BitVec 16) (s : State) (j : Nat) (ch : FadeChannel) (k : BitVec 9) (v u : State) : Prop where
  scheduled : fadeSchedule[j]? = some (ch, k)
  loop : fadeLoop fadeSchedule (fadeStart c n s) = fadeLoop (fadeSchedule.drop j) v
  paint : fadePaint ch k v = fadeBase c n j ch k s u
  first : j = 0 → u = s
  above : ∀ i, 24 * n.toNat < i → Memory.read u.fb i = Memory.read s.fb i

section
variable {c : Color} {n : BitVec 16} {s v u : State} {j : Nat} {ch : FadeChannel} {k : BitVec 9}

/-- Step `j` of a fade gets the answers at index `j`. -/
theorem fadeBase_beginAt : (fadeBase c n j ch k s u).beginAt 0 = s.beginAt j := by
  simp [State.beginAt, fadeBase]

theorem fadeBase_waitAt : (fadeBase c n j ch k s u).waitAt 0 = s.waitAt j := by
  simp [State.waitAt, fadeBase]

theorem reachesStep_zero (c : Color) (n : BitVec 16) (s : State) : ReachesStep c n s 0 .blue 0 (fadeStart c n s) s where
  scheduled := fadeSchedule_getElem? 0
  loop := by rw [List.drop_zero]
  paint := by
    rw [fadePaint_of_paintsComposite (paintsComposite_first rfl), fadeBase, List.take_zero, fadeEvents, List.flatMap_nil,
      List.append_nil]
    rfl
  first := fun _ => rfl
  above := fun _ _ => rfl

/-- Good answers at step `j` complete it, and the loop goes on from the state it leaves. -/
theorem ReachesStep.goes_on (h : ReachesStep c n s j ch k v u) (hcap : n.toNat + 2 ≤ s.params.maxLeds)
    (hgood : s.beginAt j = .ok ∧ s.waitAt j = .done) :
    ∃ ph tc pr, fadeLoop fadeSchedule (fadeStart c n s) =
      fadeLoop (fadeSchedule.drop (j + 1)) (stepSent (fadeBase c n j ch k s u) ph tc pr) := by
  rw [h.loop, fadeSchedule_drop h.scheduled]
  exact fadeLoop_goes_on _ h.paint hcap (fadeBase_beginAt.trans hgood.1) (fadeBase_waitAt.trans hgood.2)

/-- Any other answers at step `j` end the fade as its write ends. -/
theorem ReachesStep.exec_stops (h : ReachesStep c n s j ch k v u) (hready : s.drv = .ready)
    (hbad : ¬ (s.beginAt j = .ok ∧ s.waitAt j = .done)) :
    exec (.fade c n) s = conclude (writeBody (fadeBase c n j ch k s u)) := by
  rw [exec_fade_start hready, h.loop, fadeSchedule_drop h.scheduled]
  exact congrArg conclude (fadeLoop_stops _ h.paint (by rw [fadeBase_beginAt, fadeBase_waitAt]; exact hbad))

/-- What a completed step leaves is, once the next step is painted, `fadeBase` of that step. -/
theorem fadePaint_stepSent {d : FadeChannel} {l : BitVec 9} (hj : fadeSchedule[j]? = some (ch, k)) (hk : k.toNat < FADE_STEPS)
    (hnext : nextFadeStep ch k = some (d, l)) (ph : Phase) (tc : BitVec 15) (pr : Byte) :
    fadePaint d l (stepSent (fadeBase c n j ch k s u) ph tc pr) =
      fadeBase c n (j + 1) d l s (stepSent (fadeBase c n j ch k s u) ph tc pr) := by
  have hpaint : PaintsComposite (stepSent (fadeBase c n j ch k s u) ph tc pr) (d, l) := paintsComposite_next hk rfl hnext
  rw [fadePaint_of_paintsComposite hpaint]
  conv_rhs =>
    rw [fadeBase, fadeEvents_take_succ hj, ← List.append_assoc, ← List.append_assoc, ← List.tail_drop, ← List.tail_drop]
  rfl

end

/-- Good answers before step `j` bring the loop to it. -/
theorem exists_reachesStep {c : Color} {n : BitVec 16} {s : State} (hcap : n.toNat + 2 ≤ s.params.maxLeds) (j : Nat)
    {ch : FadeChannel} {k : BitVec 9} (hj : fadeSchedule[j]? = some (ch, k))
    (hgood : ∀ i, i < j → s.beginAt i = .ok ∧ s.waitAt i = .done) : ∃ v u, ReachesStep c n s j ch k v u := by
  induction j generalizing ch k with
  | zero =>
    cases (fadeSchedule_getElem? 0).symm.trans hj
    exact ⟨_, _, reachesStep_zero c n s⟩
  | succ j ih =>
    obtain ⟨ch', k', hj', hk', hnext⟩ := fadeSchedule_pred hj
    obtain ⟨v, u, h⟩ := ih hj' fun i hi => hgood i (Nat.lt_succ_of_lt hi)
    obtain ⟨ph, tc, pr, hloop⟩ := h.goes_on hcap (hgood j j.lt_succ_self)
    refine ⟨_, _, hj, hloop, fadePaint_stepSent hj' hk' hnext ph tc pr, nofun, fun i hi => ?_⟩
    exact (builtFrom_rest (fadeBase c n j ch' k' s u) i hi).trans (h.above i hi)

/-! ## The endings of FADE (R236, R237, R268) -/

/-- The entries above the frame are, after the write of step `j`, as they were before the fade. -/
theorem ReachesStep.built_above {c : Color} {n : BitVec 16} {s v u t : State} {j : Nat} {ch : FadeChannel} {k : BitVec 9}
    (h : ReachesStep c n s j ch k v u) (hb : Built (fadeBase c n j ch k s u) t) (i : Nat) (hi : 24 * n.toNat < i) :
    Memory.read t.fb i = Memory.read s.fb i :=
  (hb.rest i hi).trans (h.above i hi)

/-- Settles O39: the loop comes to the last step and completes it, and no step is left. -/
theorem fadeCompletes : Obligations.FadeCompletes := by
  intro c n s hready hcap hgood
  have hlast : fadeSchedule[1529]? = some (.red, 509) := fadeSchedule_getElem? 1529
  obtain ⟨v, u, h⟩ := exists_reachesStep (c := c) hcap 1529 hlast fun i hi => hgood i (Nat.lt_succ_of_lt hi)
  obtain ⟨ph, tc, pr, hloop⟩ := h.goes_on hcap (hgood 1529 (by decide))
  have hend : fadeSchedule.drop (1529 + 1) = [] := List.drop_of_length_le fadeSchedule_length.le
  have hall : fadeSchedule.take (1529 + 1) = fadeSchedule := List.take_of_length_le fadeSchedule_length.le
  have hbuilt : Built (fadeBase c n 1529 .red 509 s u) (respondOk (stepSent (fadeBase c n 1529 .red 509 s u) ph tc pr)) :=
    built_of_eq rfl rfl rfl
  refine ⟨respondOk (stepSent (fadeBase c n 1529 .red 509 s u) ph tc pr), ?_, ?_, hbuilt.frame, h.built_above hbuilt⟩
  · rw [exec_fade_start hready, hloop, hend]
    rfl
  · conv_rhs =>
      rw [← hall, fadeEvents_take_succ hlast, ← List.append_assoc, ← List.append_assoc, ← List.tail_drop (i := 1529),
        ← List.tail_drop (i := 1529)]
    rfl

/-- Settles O40: the loop comes to step `j`, whose write fails as that of WRITE does. -/
theorem fadeAbortsAtTheFirstError : Obligations.FadeAbortsAtTheFirstError := by
  intro c n s j ch k e hready hcap hj hgood
  obtain ⟨v, u, h⟩ := exists_reachesStep (c := c) hcap j hj hgood
  refine ⟨fun hb => ?_, fun m hb hw => ?_⟩
  · obtain ⟨t, ht, hfail⟩ := conclude_writeBody_begin_err (b := fadeBase c n j ch k s u) hcap (fadeBase_beginAt.trans hb)
    have hexec := h.exec_stops hready fun hok => by cases hb.symm.trans hok.1
    exact ⟨t, u, hexec.trans ht, hfail, h.first, h.built_above hfail.built⟩
  · obtain ⟨t, ht, hfail⟩ := conclude_writeBody_wait_err (b := fadeBase c n j ch k s u) hcap (fadeBase_beginAt.trans hb)
      (fadeBase_waitAt.trans hw)
    have hexec := h.exec_stops hready fun hok => by cases hw.symm.trans hok.2
    exact ⟨t, u, hexec.trans ht, hfail, h.first, h.built_above hfail.built⟩

/-- Settles O41: the loop comes to step `j`, whose write hangs as that of WRITE does. -/
theorem fadeHangsAtAStep : Obligations.FadeHangsAtAStep := by
  intro c n s j ch k m hready hcap hj hgood hb hw
  obtain ⟨v, u, h⟩ := exists_reachesStep (c := c) hcap j hj hgood
  obtain ⟨t, ht, hhang⟩ := conclude_writeBody_hangs (b := fadeBase c n j ch k s u) hcap (fadeBase_beginAt.trans hb)
    (fadeBase_waitAt.trans hw)
  have hexec := h.exec_stops hready fun hok => by cases hw.symm.trans hok.2
  exact ⟨t, u, hexec.trans ht, hhang, h.first, h.built_above hhang.built⟩

end Sys2Proof.Machine
end

section
/-! SUPPORT. Taking an error (R257, R258), and a step of a busy block: it never touches the host's script (R270), and a hung block
changes nothing (R268). At the end of each part the statements on it. -/

namespace Sys2Proof.Machine

open Sys2Proof.Config

/-! ## Raising an error (R254, R255, R257, R258) -/

theorem driverAfter_survives {s : State} {e : Err} (hp : s.params.driverSurvivesError = true) (he : ∀ code, e ≠ .config code) :
    driverAfter s e = s.drv := by
  cases e with
  | capacity => rw [driverAfter, if_pos hp]
  | hardware code => rw [driverAfter, if_pos hp]
  | config code => exact absurd rfl (he code)
  | illegal => rfl
  | notReady => rfl

theorem driverAfter_lost {s : State} {e : Err} (hp : s.params.driverSurvivesError = false)
    (he : e = .capacity ∨ ∃ code, e = .hardware code) : driverAfter s e = .unbuilt := by
  have hn : ¬ s.params.driverSurvivesError = true := Bool.eq_false_iff.mp hp
  obtain rfl | ⟨code, rfl⟩ := he
  · rw [driverAfter, if_neg hn]
  · rw [driverAfter, if_neg hn]

theorem driverAfter_kept {s : State} {e : Err} (he : e = .illegal ∨ e = .notReady) : driverAfter s e = s.drv := by
  obtain rfl | rfl := he <;> rfl

theorem raise_detail (e : Err) (s : State) : (raise e s).detail = e.detail := rspWord_detail _ _

/-- Settles O59: the driver is as `driverAfter` says of the error, the response is the error's, and the other fields are those that
`raise` writes or leaves. -/
theorem raiseEffect : Obligations.RaiseEffect := by
  intro e s
  refine ⟨rfl, rfl, rfl, rfl, raise_status e s, raise_detail e s, driverAfter_survives, driverAfter_lost, driverAfter_kept, ?_,
    rfl, rfl, rfl⟩
  rintro code rfl
  rfl

/-- Settles O34: each of the three commands raises `NotReady` on its latched operands, and `NotReady` keeps the driver. -/
theorem notReadyWithoutADriver : Obligations.NotReadyWithoutADriver :=
  fun _ _ _ _ hd => ⟨exec_send_unbuilt hd, exec_write_unbuilt hd, exec_fade_unbuilt hd⟩

/-- On an idle block with nothing pending, raising an error delivers the response and changes nothing else but the driver. -/
theorem raise_quiet {s : State} (e : Err) (hc : s.ctrl = .idle) (hch : s.ch = .idle) (ht : s.txn = none) (hf : s.inFade = false) :
    raise e s = { s with drv := driverAfter s e, result := rspWord e.status e.detail, rspValid := true } := by
  rw [raise, respond, ← hc, ← hch, ← ht, ← hf]

/-- Settles O46: an idle block accepts the word and raises `IllegalCommand`; by the invariant nothing is pending there. -/
theorem illegalWordAnswer : Obligations.IllegalWordAnswer := by
  intro s pace w rest hinv hq hc hillegal
  obtain ⟨hch, htxn, hfade⟩ := hinv.idle_quiet hc
  cases hd : decodeCommand w with
  | ok i => exact absurd hd (hillegal i)
  | error e =>
    rw [step_accepted hq hc, runCommand_illegal hd, raise_quiet (s := s.accept rest) .illegal hc hch htxn hfade]
    rfl

/-! ## A busy block leaves the host's script (R270) -/

theorem resume_settle_hostInputs {s t : State} (h : resume (settle s) = .next t) : t.hostInputs = s.hostInputs := by
  obtain ⟨-, ⟨-, rfl⟩ | ⟨-, rfl⟩⟩ | ⟨e, m, -, rfl⟩ | ⟨m, -, rfl⟩ := resume_settle_cases h <;> rfl

theorem Emitted.hostInputs_eq {s u : State} {ws : List Seg} (h : Emitted s ws u) : u.hostInputs = s.hostInputs := by rw [h]

theorem execEntry_hostInputs {p : PulseCode} {s t : State} (h : execEntry p s = .next t) : t.hostInputs = s.hostInputs := by
  obtain ⟨-, rfl⟩ | ⟨-, -, ⟨ws, he, -⟩ | ⟨u, ws, he, -, hr⟩⟩ := execEntry_cases h
  · rfl
  · exact he.hostInputs_eq
  · exact (resume_settle_hostInputs hr).trans he.hostInputs_eq

theorem serializerStep_hostInputs {s t : State} (h : serializerStep s = .next t) : t.hostInputs = s.hostInputs := by
  cases hf : s.fetchEntry with
  | none => rw [serializerStep, hf] at h; cases h; rfl
  | endOfSlice => rw [serializerStep, hf] at h; exact resume_settle_hostInputs h
  | failed f => rw [serializerStep, hf] at h; cases h
  | entry w => rw [serializerStep_entry hf] at h; exact execEntry_hostInputs h

theorem buildStep_hostInputs {s t : State} (h : buildStep s = .next t) : t.hostInputs = s.hostInputs := by
  obtain hs | ⟨-, ⟨e, hs⟩ | hs⟩ := buildStep_cases s <;> (rw [hs] at h; cases h; rfl)

theorem delayStep_hostInputs {s t : State} (h : delayStep s = .next t) : t.hostInputs = s.hostInputs := by
  cases hn : nextFadeStep s.fch s.fstep with
  | none => rw [delayStep_last hn] at h; cases h; rfl
  | some ck => rw [delayStep_next hn] at h; cases h; rfl

theorem advance_hostInputs {s t : State} (h : advance s = .next t) : t.hostInputs = s.hostInputs := by
  cases hc : s.ctrl with
  | idle => rw [advance_idle hc] at h; cases h; rfl
  | build => rw [advance_build hc] at h; exact buildStep_hostInputs h
  | tx => rw [advance_tx hc] at h; exact serializerStep_hostInputs h
  | delay => rw [advance_delay hc] at h; exact delayStep_hostInputs h

/-- Settles O47: a busy block goes on with what it is doing, and that leaves the script. -/
theorem busyBlockHoldsTheCommand : Obligations.BusyBlockHoldsTheCommand := by
  intro s t pace w rest hq hc h
  rw [step_held hq hc] at h
  exact (advance_hostInputs h).trans (nextCycle_hostInputs s)

/-! ## A hung block (R268) -/

/-- With no tick left the line holds no half: the waveform is cut before it (R205). -/
theorem hold_no_ticks {ph : Phase} {l : Level} {ticks : BitVec 15} {s : State} (hb : budget s.hwOutcome = some 0)
    (ht : ¬ ticks = 0) : hold ph l ticks s = .cut s := by
  have hlong : ¬ ticks.toNat ≤ 0 := by have := toNat_ne_zero ht; omega
  simp only [hold, hb, if_neg hlong, if_true]

/-- With no tick left an entry changes nothing: it stops the serializer, or is cut before its first half. -/
theorem serializeEntry_no_ticks (p : PulseCode) {s : State} (hb : budget s.hwOutcome = some 0) :
    serializeEntry p s = .stopped s ∨ serializeEntry p s = .cut s := by
  rw [serializeEntry]
  by_cases hh : p.dh = 0
  · exact .inl (if_pos hh)
  · rw [if_neg hh, hold_no_ticks hb hh]
    exact .inr rfl

theorem Hung.resume_settle_eq {s : State} (h : Hung s) : resume (settle s) = .next s := by rw [settle_never h.2, resume]

theorem Hung.execEntry_eq {s : State} (h : Hung s) (p : PulseCode) : execEntry p s = .next s := by
  have hb : budget s.hwOutcome = some 0 := by rw [h.2]; rfl
  rw [execEntry, if_pos h.1.2]
  obtain he | he := serializeEntry_no_ticks p hb <;> (rw [he]; exact h.resume_settle_eq)

/-- The serializer of a hung block is at the end of its slice or at an entry that the invariant lets it read; either way it stays. -/
theorem Hung.serializerStep_eq {s : State} (h : Hung s) (hinv : Inv s) : serializerStep s = .next s := by
  by_cases hlt : s.rdptr.toNat < s.flen.toNat
  · obtain ⟨w, hw⟩ := hinv.readFb_ok hlt
    rw [serializerStep_word h.1 hlt hw, h.execEntry_eq]
  · rw [serializerStep_end h.1 (Nat.le_of_not_lt hlt), h.resume_settle_eq]

theorem Hung.step_eq {s : State} (h : Hung s) (hinv : Inv s) (hhost : Undisturbed s) : step s = .next s := by
  have hctrl : s.ctrl = .tx := h.1.1
  have halone : LeftAlone s := ⟨hhost, hinv.silent (by rw [hctrl]; decide)⟩
  rw [halone.step_tx hctrl, h.serializerStep_eq hinv]

/-- A state that a step answers itself is what every run from it answers. -/
theorem run_of_step_self {s : State} (h : step s = .next s) (k : Nat) : Host.Core.run Sys2Proof.core k s = .next s := by
  induction k with
  | zero => rfl
  | succ k ih => rw [run_succ k h, ih]

/-- Settles O48: a hung block whose host neither resets nor pauses answers itself in one step, and so in any number. -/
theorem hungBlockStaysHung : Obligations.HungBlockStaysHung :=
  fun _ hinv hhung hreset hpause => run_of_step_self (hhung.step_eq hinv ⟨hreset, hpause⟩)

end Sys2Proof.Machine
end

section
/-! SUPPORT. The serializer while the host only lets steps pass, entry by entry (R203), and with it a command run in single steps
up to the step before `rst` (log 1, R292, R307). At the end the statements on `rst` and on an idle block. -/

namespace Sys2Proof.Machine

open Sys2Proof.Config

/-! ## Data entries in single steps (R203) -/

theorem Emitted.accept {s u : State} {ws : List Seg} (h : Emitted s ws u) (r : List HostInput) :
    Emitted (s.accept r) ws (u.accept r) := by
  obtain ⟨rd, ph, tc, pr, rfl⟩ := h.exists_eq
  rfl

theorem entryDone_emitted {p : PulseCode} (hh : ¬ p.dh = 0) (hl : ¬ p.dl = 0) (s : State) :
    Emitted s (entryWave p) (entryDone p s) := by
  rw [entryWave_whole hh hl]
  rfl

/-- A step that only passes time, while the serializer is at work, executes the entry at `RDPTR`. -/
theorem step_pause_word {s : State} {left : List HostInput} {w : PulseWord} (hs : Sending s)
    (hq : s.hostInputs = .pause :: left) (hlt : s.rdptr.toNat < s.flen.toNat)
    (hread : Memory.read s.fb s.rdptr.toNat = some w) : step s = execEntry (PulseCode.ofWord w) (s.accept left) := by
  have hfb : (s.accept left).readFb (s.accept left).rdptr.toNat = .ok w := by
    rw [State.readFb, accept_fb, accept_rdptr, hread]
  rw [step_pause hq, advance_tx (s := s.accept left) hs.1, serializerStep_word (s := s.accept left) hs hlt hfb]

/-- The entry of a bit is sent whole when the outcome is `done`. -/
theorem step_sends_bit {s : State} {left : List HostInput} {v : Bool} (hs : Sending s) (ho : s.hwOutcome = .done)
    (hq : s.hostInputs = .pause :: left) (hlt : s.rdptr.toNat < s.flen.toNat)
    (hread : Memory.read s.fb s.rdptr.toNat = some (enc v)) :
    ∃ u, step s = .next u ∧ Emitted (s.accept left) (bitSegs v) u ∧ u.rdptr.toNat = s.rdptr.toNat + 1 := by
  obtain ⟨hh, hl⟩ := not_or.mp (enc_no_zero_duration v)
  have hsent := execEntry_whole (s := s.accept left) hs.2 hh hl (le_of_budget (.inl ho))
  refine ⟨_, (step_pause_word hs hq hlt hread).trans hsent, ?_, ?_⟩
  · rw [← entryWave_enc]
    exact entryDone_emitted hh hl _
  · have hfits := s.flen.isLt
    show (s.rdptr + 1).toNat = _
    rw [BitVec.toNat_add, show (1 : BitVec 21).toNat = 1 from rfl, Nat.mod_eq_of_lt (by omega)]

/-- As many steps that only pass time as there are bits at `RDPTR` send exactly these bits. -/
theorem run_sends_bits (bs : List Bool) {s : State} {left : List HostInput} (hs : Sending s) (ho : s.hwOutcome = .done)
    (hv : s.rspValid = false) (hq : s.hostInputs = List.replicate bs.length .pause ++ left)
    (hfits : s.rdptr.toNat + bs.length ≤ s.flen.toNat)
    (hread : ∀ i (h : i < bs.length), Memory.read s.fb (s.rdptr.toNat + i) = some (enc bs[i])) :
    ∃ u, Host.Core.run Sys2Proof.core bs.length s = .next u ∧ Emitted (s.accept left) (bs.flatMap bitSegs) u ∧
      u.rdptr.toNat = s.rdptr.toNat + bs.length := by
  induction bs generalizing s with
  | nil =>
    have hleft : s.accept left = s := by rw [accept_eq hv, ← show s.hostInputs = left from hq]
    exact ⟨s, rfl, hleft ▸ Emitted.refl s, rfl⟩
  | cons v bs ih =>
    rw [List.length_cons] at hfits
    obtain ⟨t, hstep, hsent, hptr⟩ := step_sends_bit (v := v) hs ho hq (by omega) (hread 0 (Nat.succ_pos _))
    have hstill : Sending t := hsent.sending hs
    have hdone : t.hwOutcome = .done := by rw [hsent.hwOutcome_eq, accept_hwOutcome, ho, spend_done]
    have hflen : t.flen = s.flen := by rw [hsent]; rfl
    have hrest (i : Nat) (h : i < bs.length) : Memory.read t.fb (t.rdptr.toNat + i) = some (enc bs[i]) := by
      have hi := hread (i + 1) (Nat.succ_lt_succ h)
      rwa [List.getElem_cons_succ, Nat.add_comm i, ← Nat.add_assoc, ← hptr, ← accept_fb, ← hsent.fb_eq] at hi
    obtain ⟨u, hrun, hall, hend⟩ := ih hstill hdone (by rw [hsent]; rfl) (by rw [hsent]; rfl) (by rw [hflen]; omega) hrest
    refine ⟨u, (run_succ _ hstep).trans hrun, (hsent.accept left).trans hall, ?_⟩
    rw [hend, hptr, List.length_cons]
    omega

/-! ## A frame in single steps, up to any of its entries (R62, R203) -/

/-- The first `2*k` segments of a frame are those of its first `k` bits. -/
theorem frameWave_take (c : Color) {n k : Nat} (hk : k ≤ 24 * n) :
    (frameWave c n).take (2 * k) = ((frameBits c n).take k).flatMap bitSegs := by
  have hlen : (((frameBits c n).take k).flatMap bitSegs).length = 2 * k := by
    rw [length_flatMap_bitSegs, List.length_take, frameBits_length, Nat.min_eq_left hk]
  rw [frameWave_eq, ← List.take_append_drop k (frameBits c n), List.flatMap_append, List.take_append_drop]
  exact List.take_left' hlen

/-- The entries of a frame before its terminator are the symbols of its bits (R62). -/
theorem HoldsFrame.reads_bit {s : State} {c : Color} {n i : Nat} (h : HoldsFrame s c n) (hi : i < (frameBits c n).length) :
    Memory.read s.fb i = some (enc (frameBits c n)[i]) := by
  have hlen : i < (frameWords (packet c) n).length := by
    rw [frameBits_length] at hi
    rw [frameWords_length]
    omega
  rw [h.reads i hlen]
  simp only [frameWords_packet]
  rw [List.getElem_append_left (by simpa using hi), List.getElem_map]

/-- `u` is the block in the transmission of the frame built from `b`, when its first `k` entries are out and the host does `left`
next. -/
structure AtEntry (b : State) (k : Nat) (left : List HostInput) (u : State) : Prop where
  emitted : Emitted ((started (builtFrom b)).accept left) ((frameWave b.scol b.count.toNat).take (2 * k)) u
  rdptr : u.rdptr.toNat = k

section
variable {b u : State} {k : Nat} {left : List HostInput} (h : AtEntry b k left u)
include h

theorem AtEntry.sending : Sending u := h.emitted.sending ⟨rfl, rfl, rfl⟩

theorem AtEntry.flen : u.flen.toNat = 24 * b.count.toNat + 1 := by
  rw [h.emitted]
  exact (builtFrom_holds b).length

theorem AtEntry.rspValid : u.rspValid = false := by rw [h.emitted]; rfl

theorem AtEntry.result : u.result = b.result := by rw [h.emitted]; rfl

theorem AtEntry.hostInputs : u.hostInputs = left := by rw [h.emitted]; rfl

theorem AtEntry.inFade : u.inFade = b.inFade := by rw [h.emitted]; rfl

theorem AtEntry.out : u.out = b.out ++ segEvents ((frameWave b.scol b.count.toNat).take (2 * k)) := by rw [h.emitted]; rfl

/-- At the terminator the whole frame is out. -/
theorem AtEntry.out_frame (hk : k = 24 * b.count.toNat) :
    u.out = b.out ++ segEvents (frameWave b.scol b.count.toNat) := by
  rw [h.out, frameWave_take b.scol hk.le, hk, ← frameBits_length b.scol, List.take_length, frameWave_eq]

theorem AtEntry.hwOutcome (hw : b.waitAt 0 = .done) : u.hwOutcome = .done := by
  rw [h.emitted.hwOutcome_eq]
  exact congrArg _ hw

end

/-- Once the transmission of the frame of `b` has begun, each step that only passes time sends an entry. -/
theorem run_started_to_entry {b : State} {k : Nat} {left : List HostInput} (hw : b.waitAt 0 = .done)
    (hv : b.rspValid = false) (hq : b.hostInputs = List.replicate k .pause ++ left) (hk : k ≤ 24 * b.count.toNat) :
    ∃ u, Host.Core.run Sys2Proof.core k (started (builtFrom b)) = .next u ∧ AtEntry b k left u := by
  have hframe := builtFrom_holds b
  have hptr : (started (builtFrom b)).rdptr.toNat = 0 := rfl
  have hlen : (started (builtFrom b)).flen.toNat = 24 * b.count.toNat + 1 := hframe.length
  have hbits : ((frameBits b.scol b.count.toNat).take k).length = k := by
    rw [List.length_take, frameBits_length, Nat.min_eq_left hk]
  have hread (i : Nat) (hi : i < ((frameBits b.scol b.count.toNat).take k).length) :
      Memory.read (started (builtFrom b)).fb ((started (builtFrom b)).rdptr.toNat + i) =
        some (enc ((frameBits b.scol b.count.toNat).take k)[i]) := by
    rw [hptr, Nat.zero_add, List.getElem_take]
    exact hframe.reads_bit _
  obtain ⟨u, hrun, hsent, hend⟩ := run_sends_bits ((frameBits b.scol b.count.toNat).take k)
    (s := started (builtFrom b)) (left := left) ⟨rfl, rfl, rfl⟩ hw hv (by rw [hbits]; exact hq)
    (by rw [hbits, hptr, hlen]; omega) hread
  rw [hbits] at hrun hend
  rw [← frameWave_take b.scol hk] at hsent
  exact ⟨u, hrun, hsent, by rw [hend, hptr, Nat.zero_add]⟩

/-- A step that only passes time, in `BUILD`: the frame is built and its transmission begins (R195, R197). -/
theorem step_pause_build {b : State} {left : List HostInput} (hc : b.ctrl = .build)
    (hcap : b.count.toNat + 2 ≤ b.params.maxLeds) (hb : b.beginAt 0 = .ok) (hq : b.hostInputs = .pause :: left) :
    step b = .next (started (builtFrom (b.accept left))) := by
  rw [step_pause hq, advance_build (s := b.accept left) hc, buildStep, buildBody_ok (b := b.accept left) hcap]
  simp only [beginTx_ok (s := builtFrom (b.accept left)) hb]

/-- From `BUILD`, one step builds the frame and begins, and each further one sends an entry. -/
theorem run_to_entry {b : State} {k : Nat} {left : List HostInput} (hc : b.ctrl = .build)
    (hcap : b.count.toNat + 2 ≤ b.params.maxLeds) (hb : b.beginAt 0 = .ok) (hw : b.waitAt 0 = .done)
    (hq : b.hostInputs = List.replicate (k + 1) .pause ++ left) (hk : k ≤ 24 * b.count.toNat) :
    ∃ u, Host.Core.run Sys2Proof.core (k + 1) b = .next u ∧ AtEntry b k left u := by
  have hbegin := step_pause_build (left := List.replicate k HostInput.pause ++ left) hc hcap hb hq
  obtain ⟨u, hrun, hsent, hptr⟩ :=
    run_started_to_entry (b := b.accept (List.replicate k HostInput.pause ++ left)) hw rfl rfl hk
  exact ⟨u, (run_succ k hbegin).trans hrun, hsent, hptr⟩

/-- At the terminator of a fade's frame, one step ends the transmission and enters the delay (R104, R230, R238). -/
theorem AtEntry.step_enters_delay {b u : State} {left : List HostInput}
    (h : AtEntry b (24 * b.count.toNat) (.pause :: left) u) (hw : b.waitAt 0 = .done) (hf : b.inFade = true) :
    step u = .next (enterDelay (endTx { u.accept left with out := u.out ++ [.txEnd] })) := by
  have hterm : Memory.read u.fb u.rdptr.toNat = some termWord := by
    rw [h.rdptr, h.emitted.fb_eq]
    exact (builtFrom_holds b).terminator
  rw [step_pause_word (left := left) h.sending h.hostInputs (by rw [h.flen, h.rdptr]; omega) hterm, termWord,
    PulseCode.ofWord_toWord]
  refine (exec_term (s := u.accept left) h.sending.2).trans ?_
  rw [settle_done (by exact h.hwOutcome hw), resume_done_fade (by exact h.inFade.trans hf)]
  rfl

/-! ## A command started in single steps (log 1) -/

/-- Started on `s`, the command `i` leaves `b`: in `BUILD` for `n` LEDs of the colour `col`, with no answer asked for and nothing
delivered or emitted yet. -/
structure EntersBuild (i : Instr) (col : Color) (n : BitVec 16) (s b : State) : Prop where
  start_eq : start i s = .next b
  ctrl : b.ctrl = .build
  scol : b.scol = col
  count : b.count = n
  params : b.params = s.params
  beginAt : b.beginAt 0 = s.beginAt 0
  waitAt : b.waitAt 0 = s.waitAt 0
  hostInputs : b.hostInputs = s.hostInputs
  result : b.result = s.result
  out : b.out = s.out
  fade : ∀ c m, i = .fade c m → b.inFade = true

/-- The first frame of the command `i` is `n` LEDs of the colour `col`, by its operands (R191, R194, R233). -/
def FirstFrame (i : Instr) (c : Color) (br : Byte) (n : BitVec 16) (p : Params) (col : Color) : Prop :=
  i = .send c br n ∧ col = scaleColor c br ∨ i = .write c n ∧ col = c ∨ i = .fade c n ∧ col = compositeColor p c .blue 0

theorem start_enters_build {i : Instr} {c col : Color} {br : Byte} {n : BitVec 16} {s : State} (hready : s.drv = .ready)
    (hi : FirstFrame i c br n s.params col) : ∃ b, EntersBuild i col n s b := by
  obtain ⟨rfl, rfl⟩ | ⟨rfl, rfl⟩ | ⟨rfl, rfl⟩ := hi
  · exact ⟨_, start_send_ready hready, rfl, rfl, rfl, rfl, rfl, rfl, rfl, rfl, rfl, nofun⟩
  · exact ⟨_, start_write_ready hready, rfl, rfl, rfl, rfl, rfl, rfl, rfl, rfl, rfl, nofun⟩
  · have hpaint : (fadePaint .blue 0 (fadeStart c n s)).fc = _ := paintsComposite_first rfl
    exact ⟨_, start_fade_start hready, rfl, hpaint, rfl, rfl, rfl, rfl, rfl, rfl, rfl, fun _ _ _ => rfl⟩

/-- Accepted and started, a command comes to entry `k` of its first frame, when the host lets `k + 1` steps pass. -/
theorem run_command_to_entry {i : Instr} {c col : Color} {br : Byte} {n : BitVec 16} {s : State} {w : CmdWord} {k : Nat}
    {left : List HostInput} (hc : s.ctrl = .idle) (hready : s.drv = .ready) (hcap : n.toNat + 2 ≤ s.params.maxLeds)
    (hb : s.beginAt 0 = .ok) (hw : s.waitAt 0 = .done)
    (hi : FirstFrame i c br n s.params col) (hd : decodeCommand w = .ok i)
    (hq : s.hostInputs = .command .stepwise w :: (List.replicate (k + 1) .pause ++ left)) (hk : k ≤ 24 * n.toNat) :
    ∃ b u, EntersBuild i col n (s.accept (List.replicate (k + 1) .pause ++ left)) b ∧
      Host.Core.run Sys2Proof.core (k + 2) s = .next u ∧ AtEntry b k left u := by
  obtain ⟨b, h⟩ := start_enters_build (s := s.accept (List.replicate (k + 1) .pause ++ left)) hready hi
  have hstart : step s = .next b := by rw [step_accepted hq hc, runCommand_stepwise hd, h.start_eq]
  obtain ⟨u, hrun, hu⟩ := run_to_entry h.ctrl (by rw [h.count, h.params]; exact hcap) (h.beginAt.trans hb) (h.waitAt.trans hw)
    h.hostInputs (by rw [h.count]; exact hk)
  exact ⟨b, u, h, (run_succ _ hstart).trans hrun, hu⟩

/-! ## Reset and rest (R290 to R293) -/

/-- Settles O49: a step with `rst` asserted writes every value of R46; and a command started in single steps stands at entry 0
after the step that builds its frame, and one entry further after each step that follows, until a fade's terminator brings its
delay. -/
theorem resetFromAnyState : Obligations.ResetFromAnyState := by
  refine ⟨fun s rest hq => ⟨_, step_reset hq, ?_⟩, ?_⟩
  · and_intros <;> rfl
  intro s w i c col br n k rest hc hready hcap hb hw hi hd hq
  refine ⟨fun hk => ?_, fun hfade hk => ?_⟩
  · obtain ⟨b, u, hstart, hrun, hu⟩ := run_command_to_entry hc hready hcap hb hw hi hd hq hk
    refine ⟨u, hrun, hu.sending, hu.rdptr, hu.rspValid, hu.result.trans hstart.result, ?_, hu.hostInputs⟩
    rw [hu.out, hstart.out, hstart.scol, hstart.count]
    rfl
  · subst hk
    rw [List.replicate_succ', List.append_assoc] at hq
    obtain ⟨b, u, hstart, hrun, hu⟩ := run_command_to_entry hc hready hcap hb hw hi hd hq le_rfl
    rw [← hstart.count] at hu
    have hdelay := hu.step_enters_delay (hstart.waitAt.trans hw) (hstart.fade _ _ hfade)
    refine ⟨_, (run_then hrun).trans hdelay, rfl, rfl, rfl, hu.result.trans hstart.result, ?_, rfl⟩
    show u.out ++ [Event.txEnd] = _
    rw [hu.out_frame rfl, hstart.out, hstart.scol, hstart.count, frameEvents, List.append_assoc]
    rfl

/-- Settles O51: with nothing offered the controller goes on, and an idle one does nothing. -/
theorem idleBlockWaits : Obligations.IdleBlockWaits :=
  fun _ hc hq => (step_nothing hq).trans (advance_idle hc)

end Sys2Proof.Machine
end
